-- ==== Sys2Proof/Word.lean ====
section
/-! DEFINITION. The plain words of the coordinator: bytes, crane and zone numbers, the three axes, the ports
(spec/00_scope.md, "Cranes, Zones and Bookings", "Units and Ranges"; spec/11_frame_layouts.md, R171). -/

namespace Sys2Proof

/-- One byte of a frame (spec/11, Figure 11-1: every frame is 32 bytes). -/
abbrev Byte := BitVec 8

/-- A two-byte field as received (spec/11, R173). -/
abbrev Half := BitVec 16

/-- A crane: crane number `n` of the spec (1 to 8) is `n - 1` here. -/
abbrev Crane := Fin 8

/-- A zone: zone number `n` of the spec (1 to 64) is `n - 1` here. -/
abbrev Zone := Fin 64

/-- The crane number the spec and the frames use, 1 to 8. -/
def craneNum (k : Crane) : Nat := k.val + 1

/-- The zone number the spec and the frames use, 1 to 64. -/
def zoneNum (z : Zone) : Nat := z.val + 1

/-- The crane with a number, if it lies within 1 to 8. -/
def craneOf? (n : Nat) : Option Crane :=
  if h : 1 ≤ n ∧ n ≤ 8 then some ⟨n - 1, by omega⟩ else none

/-- The zone with a number, if it lies within 1 to 64. -/
def zoneOf? (n : Nat) : Option Zone :=
  if h : 1 ≤ n ∧ n ≤ 64 then some ⟨n - 1, by omega⟩ else none

/-- The cranes in ascending crane number. -/
def allCranes : List Crane := List.finRange 8

/-- The zones in ascending zone number. -/
def allZones : List Zone := List.finRange 64

/-- One value for each axis, in the order slew, trolley, hoist. -/
structure PerAxis (α : Type) where
  slew    : α
  trolley : α
  hoist   : α
  deriving DecidableEq, Repr

/-- The same value on all three axes. -/
def PerAxis.all {α : Type} (a : α) : PerAxis α := ⟨a, a, a⟩

/-- The seventeen ports (spec/00_scope.md, Figure 0-2): a C-port and a D-port for each crane, and the S-port. -/
inductive Port where
  | c (k : Crane)
  | d (k : Crane)
  | s
  deriving DecidableEq, Repr

/-- A byte as a port receives it, with whether its stop bit was there (spec/11, R171). -/
structure RxByte where
  byte   : Byte
  stopOk : Bool
  deriving DecidableEq, Repr

end Sys2Proof
end

