-- ==== Sys2Proof/Syntax.lean ====
section
/-! DEFINITION. The commands of the coordinator: one constructor of `Instr` for each row of spec/opcode_table.json, with
the data its rule gives it, and the table records that commands carry (spec/01, R2 to R6). Numbers a request carries are
raw: the ranges are tested by the request's own rule, and `WellFormed` says which values its fields can carry at all. -/

namespace Sys2Proof

/-- JIB-PASS and LOAD-PASS, as a flag set (spec/04, R68; spec/11, Figure 11-9). -/
structure PermSet where
  jib  : Bool
  load : Bool
  deriving DecidableEq, Repr

/-- The static record of one zone (R3). -/
structure ZoneStatic where
  present     : Bool
  clearHeight : Nat
  base        : PermSet
  holdLimit   : Nat
  deriving DecidableEq, Repr

/-- A claim as a segment carries it (R4): zone number, class code (JIB 1, HOOK 2) and band. -/
structure RawClaim where
  zone : Nat
  cls  : Nat
  rlo  : Nat
  rhi  : Nat
  deriving DecidableEq, Repr

/-- The claims of one sector as a segment carries them: a count and the entries; entries beyond the count are ignored
(R173). -/
structure RawSector where
  count  : Nat
  claims : List RawClaim
  deriving DecidableEq, Repr

/-- One entry of a load chart (R5). -/
structure ChartEntry where
  bound  : Nat
  rating : Nat
  deriving DecidableEq, Repr

/-- A chart segment: an entry count, then the entries (R5). -/
structure RawChart where
  count   : Nat
  entries : List ChartEntry
  deriving DecidableEq, Repr

/-- A wind policy (R6, Figure 1-3). -/
structure Policy where
  ng          : Nat
  meanShift   : Nat
  gustWeight  : Nat
  jumpLimit   : Nat
  faultRun    : Nat
  onAlert     : Nat
  offAlert    : Nat
  onHold      : Nat
  offHold     : Nat
  onStow      : Nat
  offStow     : Nat
  declareDwell : Nat
  clearDwell  : Nat
  derateAlert : Nat
  derateHold  : Nat
  deriving DecidableEq, Repr

/-- The speed cap, deceleration, reaction time and clearance of one axis (R2). -/
structure AxisDyn where
  vcap      : Nat
  decel     : Nat
  reaction  : Nat
  clearance : Nat
  deriving DecidableEq, Repr

/-- A profile segment (R2, Figure 1-2). The activity classes are codes (PRIMARY 1, SECONDARY 2); each lane timer may be
omitted separately. -/
structure ProfileSeg where
  present      : Bool
  dyn          : PerAxis AxisDyn
  rmin         : Nat
  rmax         : Nat
  stowRadius   : Nat
  topHeight    : Nat
  emptyHook    : Nat
  activity     : PerAxis Nat
  tstale       : Option Nat
  tlost        : Option Nat
  tcab         : Option Nat
  vaneTimeout  : Nat
  deriving DecidableEq, Repr

/-- The table kind and content of a LOAD SEGMENT (R11). `unknown` is a table kind other than the five of Figure 11-9. -/
inductive Segment where
  | profile   (p : ProfileSeg)
  | reachMap  (sectors : List RawSector)
  | loadChart (c : RawChart)
  | policy    (p : Policy)
  | zoneTable (zones : List ZoneStatic)
  | unknown   (kind : Nat)
  deriving DecidableEq, Repr

/-- The target of a request as its frame carries it (spec/11, Figure 11-6): sort 0 site or none, 1 crane, 2 zone,
3 booking, 4 all cranes; and a value. -/
structure Target where
  sort  : Byte
  value : Half
  deriving DecidableEq, Repr

/-- The fields of a booking record that BOOK LIFT carries besides its id (spec/08, Figure 8-1). -/
structure LiftPlan where
  crane      : Nat
  opens      : Nat
  closes     : Nat
  load       : Nat
  pickSector : Nat
  pickRadius : Nat
  setSector  : Nat
  setRadius  : Nat
  routeCount : Nat
  route      : List Nat
  deriving DecidableEq, Repr

/-- The report kinds, in the order of spec/09, Figure 9-4. -/
inductive ReportKind where
  | laneState | cabState | controlState | overlap | intrusion | breach | overrun | staleConflict | vacateRequest
  | yieldSet | waitDropped | windLevel | sensorFault | vaneState | vaneBlocked | bookingState | loadAboveDeclared
  | chartOverrun | commitResult | commitBlocked | grantExpired | permissionExpired | exitOnly | countersReady
  | captureReady | queueOverflow
  deriving DecidableEq, Repr

/-- The capture trigger kinds, in the order of spec/09, Figure 9-6 and spec/11, Figure 11-9. -/
inductive TriggerKind where
  | overlap | overrun | intrusion | breach | laneLost | vaneBlocked | supervisor
  deriving DecidableEq, Repr

/-- The reporting settings (spec/09, Figure 9-5): the kinds that are enabled, the state kinds set to declare-only, the
pace in frames per second, the report interval in seconds and the trigger kinds that are enabled. -/
structure Settings where
  enabled     : List ReportKind
  declareOnly : List ReportKind
  pace        : Nat
  interval    : Nat
  triggers    : List TriggerKind
  deriving DecidableEq, Repr

/-- The commands: one constructor for each row of spec/opcode_table.json, in the table's order. -/
inductive Instr where
  /-- POWER_ON (R22). -/
  | powerOn
  /-- POSE_FRAME: bytes arriving on D-port k (R23, R27). -/
  | poseFrame (k : Crane) (bytes : List RxByte)
  /-- DEMAND_FRAME: bytes arriving on C-port k (R23, R38). -/
  | demandFrame (k : Crane) (bytes : List RxByte)
  /-- IDLE_LINE_END: an idle line of 20 µs or more on a port (R171). -/
  | idleLineEnd (p : Port)
  /-- MANAGEMENT_FRAME: bytes arriving on the S-port (R161, R173). -/
  | managementFrame (bytes : List RxByte)
  /-- TSTALE_EXPIRY of lane k (R29). -/
  | tstaleExpiry (k : Crane)
  /-- TLOST_EXPIRY of lane k (R31). -/
  | tlostExpiry (k : Crane)
  /-- TCAB_EXPIRY of lane k (R33). -/
  | tcabExpiry (k : Crane)
  /-- HOLD_LIMIT_EXPIRY of the hold of zone z (R58). -/
  | holdLimitExpiry (z : Zone)
  /-- VANE_TIMEOUT of crane k (R124). -/
  | vaneTimeout (k : Crane)
  /-- PACE_TIMER_EXPIRY (R157). -/
  | paceTimerExpiry
  /-- TRANSFER_INTERVAL_EXPIRY (R154). -/
  | transferIntervalExpiry
  /-- SITE_SECOND (R167). -/
  | siteSecond
  /-- OVERRIDE_EXPIRY of zone z (R71). -/
  | overrideExpiry (z : Zone)
  /-- GRANT_EXPIRY of the entry of crane k and zone z (R75). -/
  | grantExpiry (k : Crane) (z : Zone)
  /-- WINDOW_OPEN_EVENT of a booking (R135). -/
  | windowOpenEvent (id : Nat)
  /-- WINDOW_CLOSE_EVENT of a booking (R135). -/
  | windowCloseEvent (id : Nat)
  /-- LOAD_SEGMENT (R11): tag, target, segment number, table kind with content. -/
  | loadSegment (tag : Byte) (tgt : Target) (seg : Nat) (content : Segment)
  /-- COMMIT (R13): the table set is a flag set, bit 0 profile to bit 4 zone table (Figure 11-9). -/
  | commit (tag : Byte) (tgt : Target) (set : Byte)
  /-- COMMENCE (R164). -/
  | commence (tag : Byte) (tgt : Target)
  /-- SITE_RESET (R165). -/
  | siteReset (tag : Byte) (tgt : Target)
  /-- CRANE_RESTART (R166). -/
  | craneRestart (tag : Byte) (tgt : Target)
  /-- SET_SITE_TIME (R168). -/
  | setSiteTime (tag : Byte) (tgt : Target) (t : Nat)
  /-- HALT_CRANE (R37). -/
  | haltCrane (tag : Byte) (tgt : Target)
  /-- RELEASE_CRANE (R36). -/
  | releaseCrane (tag : Byte) (tgt : Target)
  /-- RESUME_CRANE (R127). -/
  | resumeCrane (tag : Byte) (tgt : Target)
  /-- FORCE_RELEASE_ZONE (R67). -/
  | forceReleaseZone (tag : Byte) (tgt : Target)
  /-- SET_ZONE_PERMISSIONS (R70): mode code (OVERRIDE 1, REVERT 2), setting and expiry. -/
  | setZonePermissions (tag : Byte) (tgt : Target) (mode : Nat) (setting : PermSet) (expiry : Option Nat)
  /-- GRANT_ACCESS (R73): the target names the crane. -/
  | grantAccess (tag : Byte) (tgt : Target) (zone : Nat) (uses : PermSet) (expiry : Option Nat)
  /-- REVOKE_ACCESS (R74): the target names the crane. -/
  | revokeAccess (tag : Byte) (tgt : Target) (zone : Nat)
  /-- BOOK_LIFT (R133): the target names the booking id. -/
  | bookLift (tag : Byte) (tgt : Target) (plan : LiftPlan)
  /-- CANCEL_BOOKING (R144). -/
  | cancelBooking (tag : Byte) (tgt : Target)
  /-- RETIRE_BOOKING (R150). -/
  | retireBooking (tag : Byte) (tgt : Target)
  /-- READ_CRANE (R169). -/
  | readCrane (tag : Byte) (tgt : Target) (part : Nat)
  /-- READ_ZONE (R169). -/
  | readZone (tag : Byte) (tgt : Target)
  /-- READ_BOOKING (R169). -/
  | readBooking (tag : Byte) (tgt : Target) (part : Nat)
  /-- READ_COUNTERS (R169, R153). -/
  | readCounters (tag : Byte) (tgt : Target) (part : Nat)
  /-- READ_CAPTURE (R169, R160). -/
  | readCapture (tag : Byte) (tgt : Target) (part : Nat)
  /-- SNAPSHOT_COUNTERS (R170). -/
  | snapshotCounters (tag : Byte) (tgt : Target)
  /-- SET_REPORTING (R170). -/
  | setReporting (tag : Byte) (tgt : Target) (settings : Settings)
  /-- TRIGGER_CAPTURE (R160). -/
  | triggerCapture (tag : Byte) (tgt : Target)
  deriving DecidableEq, Repr

end Sys2Proof
end

