-- ==== Sys2Proof/Decode.lean ====
section
/-! DEFINITION. The command a word of the opcode table spells. No row of spec/opcode_table.json gives bits ("fields" is
empty in all 41 rows; spec/98_reader.md: no row with "fixed"): a command is a frame at a port or an event of a timer, not
a word. So no word spells a command. How bytes of a frame are read is in Machine/Operands.lean and Machine/Frames.lean. -/

namespace Sys2Proof

/-- The command that `w`, of `nbits` bits, spells by the table's bits: none, as no row has bits. -/
def decodeTableWord (_nbits _w : Nat) : Option Instr := none

end Sys2Proof
end

