-- ==== Sys2Proof/Config.lean ====
section
/-! DEFINITION. The free values: what the spec leaves open and the model does not choose. Each is a constant with no
body, so no proof can see its value and every claim holds whatever it is. -/

namespace Sys2Proof

/-- The byte a request field is read from when the train that carried the request ended before it. R173 says that bytes
beyond the last field are ignored; it says nothing of missing ones. Applied to the model's counter `freeCount`, it gives
a fresh value each time (log 11). -/
opaque Config.missingByte : Nat → Byte

/-- What a byte other than 0 and 1 means where the spec gives only 0 and 1 a meaning: the presence byte of an optional
field (R173) and a single flag (log 10). -/
opaque Config.oddFlag : Nat → Bool

/-- Which of several timed events that fall due together is taken next. The spec allows either order; applied to
`freeCount` and reduced modulo the number of events due, it picks one (log 4). -/
opaque Config.dueChoice : Nat → Nat

end Sys2Proof
end

