-- ==== Sys2Proof/Machine/State.lean ====
section
/-! DEFINITION. The state of the coordinator as plain data, block by block (spec/00_scope.md, Figure 0-1), the reasons a
step could stop, and the state after power-on (`State.reset`). -/

namespace Sys2Proof.Machine

/-! ### Names of states, kinds and marks -/

/-- The two modes (spec/10, section 10.2). -/
inductive Mode where
  | config | operating
  deriving DecidableEq, Repr

/-- Lane states (R22). -/
inductive LaneState where
  | syncing | live | stale | lost
  deriving DecidableEq, Repr

/-- Cab states (R22). -/
inductive CabState where
  | active | silent
  deriving DecidableEq, Repr

/-- Control states (R22). -/
inductive ControlState where
  | run | halted
  deriving DecidableEq, Repr

/-- Wind levels (R102). -/
inductive WindLevel where
  | calm | alert | hold | stow
  deriving DecidableEq, Repr

/-- Vane states (R119): NONE, PREPARING, VANING. -/
inductive VaneState where
  | none | preparing | vaning
  deriving DecidableEq, Repr

/-- Answers to booking steps (spec/08, Figure 8-4). -/
inductive Answer where
  | accepted | badId | notOpen | wind | notRunning | routeBarred | badStep
  deriving DecidableEq, Repr

/-- The use of a zone (R8). -/
inductive Use where
  | jib | load
  deriving DecidableEq, Repr

/-- Hold kinds (R44). -/
inductive HoldKind where
  | motion | booking | frozen | exitOnly
  deriving DecidableEq, Repr

/-- Classes of a queue entry (R53). -/
inductive QClass where
  | routine | booked | reserve
  deriving DecidableEq, Repr

/-- Causes of a vacate mark (R59). -/
inductive VacateCause where
  | holdLimit | sweep | cycle
  deriving DecidableEq, Repr

/-- The axes, and the reload causes of R57 (`none` is the cause none of an `Option Axis`). -/
inductive Axis where
  | slew | trolley | hoist
  deriving DecidableEq, Repr

/-- Activity classes (R2). -/
inductive Activity where
  | primary | secondary
  deriving DecidableEq, Repr

/-- Booking states (R132). -/
inductive BookingState where
  | logged | opened | active | suspended | done | lapsed | cancelled
  deriving DecidableEq, Repr

/-- Suspension reasons (R132). -/
inductive SuspendReason where
  | wind | lane | halt | reset
  deriving DecidableEq, Repr

/-- Chart marks (R83). -/
inductive ChartMark where
  | clear | limit | overload
  deriving DecidableEq, Repr

/-- The nine counters of a crane, in the order of spec/09, Figure 9-1. -/
inductive CounterId where
  | slewClamps | trolleyClamps | hoistClamps | intrusions | overlaps | overruns | frameErrors | seqGaps | stopSubstitutes
  deriving DecidableEq, Repr

/-- Refusal reasons, in the order R162 lists them. -/
inductive Reason where
  | badTarget | badState | range | tableFull | duplicate | incomplete | invalid | conflict | notPermitted
  deriving DecidableEq, Repr

/-! ### Lane Interface and Pose Store -/

/-- One Lane Interface (R22, Figure 2-2). A timer that runs holds its expiry instant. -/
structure Lane where
  state      : LaneState
  syncRun    : Nat
  lastSeq    : Option Nat
  tstale     : Option Nat
  tlost      : Option Nat
  cab        : CabState
  tcab       : Option Nat
  control    : ControlState
  lastStep   : Option Nat
  lastAnswer : Option (Answer × Nat)
  outSeq     : Nat
  clamps     : PerAxis Bool
  deriving DecidableEq, Repr

/-- A debounced flag with its candidate mark (R26). -/
structure Debounced where
  value     : Bool
  candidate : Bool
  deriving DecidableEq, Repr

/-- Site time in seconds with the millisecond within the second (R27, R155). -/
structure Stamp where
  sec : Nat
  ms  : Nat
  deriving DecidableEq, Repr

/-- A pose record that is not empty (R27). -/
structure Pose where
  theta         : Nat
  r             : Nat
  h             : Nat
  speed         : PerAxis Int
  load          : Nat
  wind          : Nat
  newWind       : Bool
  seq           : Nat
  hookParked    : Debounced
  brakeReleased : Debounced
  driveFault    : Debounced
  arrival       : Stamp
  deriving DecidableEq, Repr

/-! ### Site Tables -/

/-- A crane profile (R2), its lane timers filled in. -/
structure Profile where
  present     : Bool
  dyn         : PerAxis AxisDyn
  rmin        : Nat
  rmax        : Nat
  stowRadius  : Nat
  topHeight   : Nat
  emptyHook   : Nat
  activity    : PerAxis Activity
  tstale      : Nat
  tlost       : Nat
  tcab        : Nat
  vaneTimeout : Nat
  deriving DecidableEq, Repr

/-- The class of a claim with the band of a HOOK claim (R4). -/
inductive ClaimClass where
  | jib
  | hook (rlo rhi : Nat)
  deriving DecidableEq, Repr

/-- A claim of a reach map (R4). -/
structure Claim where
  zone : Zone
  cls  : ClaimClass
  deriving DecidableEq, Repr

/-- The claims of 256 sectors, sector 0 first (R4). A sector beyond the list has no claim. -/
abbrev ReachMap := List (List Claim)

/-- An ordered load chart (R5). -/
abbrev Chart := List ChartEntry

/-- The 64 static zone records (R3). -/
abbrev ZoneTable := Vector ZoneStatic 64

/-- A crane's staging area (R10): four slots, the map slot with sixteen segment places. -/
structure CraneStaging where
  profile : Option Profile
  map     : Vector (Option (List (List Claim))) 16
  chart   : Option Chart
  policy  : Option Policy
  deriving DecidableEq, Repr

/-- A pending structural commit: the tables it names, and its commit-blocked indication (R17, R18). -/
structure StructuralCommit where
  profile : Option Profile
  map     : Option ReachMap
  chart   : Option Chart
  blocked : Bool
  deriving DecidableEq, Repr

/-- The Site Tables (R1, R10, R17, R19; Figure 1-1). -/
structure Site where
  profiles     : Vector (Option Profile) 8
  maps         : Vector (Option ReachMap) 8
  charts       : Vector (Option Chart) 8
  policies     : Vector (Option Policy) 8
  zoneTable    : Option ZoneTable
  staging      : Vector CraneStaging 8
  zoneStaging  : Vector (Option (List ZoneStatic)) 4
  structural   : Vector (Option StructuralCommit) 8
  policyCommit : Vector (Option Policy) 8
  deriving DecidableEq, Repr

/-! ### Zone Arbiter -/

/-- The state of a zone with what the state carries (R43, Figure 3-1): a FREE zone has no holder and no taken instant,
and only a HELD zone has a hold kind. -/
inductive ZoneState where
  | free
  | held (by_ : Crane) (kind : HoldKind) (taken : Nat)
  | swept (by_ : Crane) (taken : Nat)
  deriving DecidableEq, Repr

/-- An entry of a wait queue (R53). -/
structure Entry where
  crane : Crane
  cls   : QClass
  use   : Use
  deriving DecidableEq, Repr

/-- The dynamic record of one zone (R43). -/
structure ZoneRec where
  st           : ZoneState
  vacate       : Bool
  sweepPending : Option Crane
  queue        : List Entry
  deriving DecidableEq, Repr

/-- A motion wait: its zone, and the use it was requested for (R54; log 15). -/
structure Wait where
  zone : Zone
  use  : Use
  deriving DecidableEq, Repr

/-- The Zone Arbiter's record of one crane (R45, Figure 3-3). -/
structure ArbRec where
  motionWait  : Option Wait
  reservation : Option Zone
  lastReload  : Nat
  reloadCause : Option Axis
  yieldZone   : Option Zone
  overlaps    : List Zone
  settling    : Bool
  deriving DecidableEq, Repr

/-- The Zone Arbiter. -/
structure Air where
  zones  : Vector ZoneRec 64
  cranes : Vector ArbRec 8
  deriving DecidableEq, Repr

/-! ### Access Control -/

/-- The permission items of one zone (R68, Figure 4-1). -/
structure Perm where
  current  : PermSet
  override : Bool
  expiry   : Option Nat
  deriving DecidableEq, Repr

/-- An access grant entry (R72). -/
structure Grant where
  crane  : Crane
  zone   : Zone
  uses   : PermSet
  expiry : Option Nat
  deriving DecidableEq, Repr

/-- Access Control. -/
structure Access where
  perms  : Vector Perm 64
  grants : List Grant
  deriving DecidableEq, Repr

/-! ### Motion Governor -/

/-- One item of a boundary's cause (R83). A zone carries the use it had where the axis met it (R99). -/
inductive Cause where
  | zone (z : Zone) (use : Use)
  | cap | chart | rmax | rmin | stowRadius | top | wind | overload
  deriving DecidableEq, Repr

/-- A boundary: its distance, absent for a barred direction, and its cause (R83). -/
structure Boundary where
  dist   : Option Int
  causes : List Cause
  deriving DecidableEq, Repr

/-- The Motion Governor's record of one crane (R83, Figure 5-2). -/
structure GovRec where
  requested   : PerAxis Int
  output      : PerAxis Int
  permitted   : PerAxis (Option Nat)
  boundary    : PerAxis (Option Boundary)
  chartMark   : ChartMark
  overrunMark : Bool
  deriving DecidableEq, Repr

/-! ### Wind Monitor and Vane Control -/

/-- The record of one Wind Monitor (R102, Figure 6-1); `running` is its activity. -/
structure WindRec where
  running     : Bool
  level       : WindLevel
  last        : Option Nat
  pending     : Option Nat
  window      : List Nat
  mean        : Option Nat
  figure      : Option Nat
  raiseAlert  : Nat
  raiseHold   : Nat
  raiseStow   : Nat
  clearCount  : Nat
  faultRun    : Nat
  faultMark   : Bool
  deriving DecidableEq, Repr

/-- The record of one Vane Control (R119, Figure 7-2). -/
structure VaneRec where
  state   : VaneState
  start   : Option Nat
  timeout : Option Nat
  blocked : Bool
  deriving DecidableEq, Repr

/-! ### Booking Table -/

/-- The outcome of a booking (R148, Figure 8-6). -/
structure LiftOutcome where
  beginTime     : Option Nat
  endTime       : Option Nat
  maxLoad       : Option Nat
  intrusions    : Option Nat
  chartOverruns : Option Nat
  loadAbove     : Option Nat
  deriving DecidableEq, Repr

/-- A booking record (R132, Figure 8-1). -/
structure Booking where
  id            : Nat
  crane         : Crane
  opens         : Nat
  closes        : Nat
  load          : Nat
  pickSector    : Nat
  pickRadius    : Nat
  setSector     : Nat
  setRadius     : Nat
  route         : List Zone
  state         : BookingState
  leg           : Nat
  overtime      : Bool
  reason        : Option SuspendReason
  suspensions   : Nat
  outcome       : LiftOutcome
  deriving DecidableEq, Repr

/-! ### Clock, counters, reports, capture -/

/-- The site clock (R167). -/
structure Clock where
  siteTime    : Nat
  secondStart : Nat
  deriving DecidableEq, Repr

/-- A counter with its overflow marker (R152). -/
structure Counter where
  value  : Nat
  marker : Bool
  deriving DecidableEq, Repr

/-- A counter report record (R153). -/
structure CounterReport where
  values : Vector Counter 9
  stamp  : Option Stamp
  deriving DecidableEq, Repr

/-- An entry of the Report Queue (R155). The value is the number that bytes 6 to 9 of the report frame carry (R174). -/
structure Report where
  kind    : ReportKind
  crane   : Option Crane
  zone    : Option Zone
  booking : Option Nat
  value   : Nat
  count   : Nat
  first   : Stamp
  last    : Stamp
  deriving DecidableEq, Repr

/-- What a capture holds of one crane (R159). -/
structure Snapshot where
  pose : Option Pose
  lane : LaneState
  wind : WindLevel
  vane : VaneState
  deriving DecidableEq, Repr

/-- A full Capture Buffer (R159). -/
structure Capture where
  stamp     : Stamp
  trigger   : TriggerKind
  crane     : Option Crane
  zone      : Option Zone
  snapshots : Vector Snapshot 8
  deriving DecidableEq, Repr

/-- Counter Bank, Report Queue and Capture Buffer (R152 to R160). -/
structure Recorder where
  counters      : Vector (Vector Counter 9) 8
  reports       : Vector CounterReport 8
  transferTimer : Option Nat
  queue         : List Report
  overflow      : Nat
  paceTimer     : Nat
  settings      : Settings
  capture       : Option Capture
  missed        : Nat
  deriving DecidableEq, Repr

/-! ### Management Interpreter and ports -/

/-- The assembly of a request train (R173): the parts received so far, in order. -/
structure Assembly where
  kind  : Byte
  tag   : Byte
  tgt   : Target
  parts : List (List Byte)
  deriving DecidableEq, Repr

/-- The Management Interpreter: tags of pending commits (R163) and the assembly (R173). -/
structure Mgmt where
  structuralTag : Vector (Option Byte) 8
  policyTag     : Vector (Option Byte) 8
  assembly      : Option Assembly
  deriving DecidableEq, Repr

/-- The bytes of the frame in progress at each receiving port, oldest first (R171). -/
structure Line where
  c : Vector (List RxByte) 8
  d : Vector (List RxByte) 8
  s : List RxByte
  deriving DecidableEq, Repr

/-- A frame the coordinator has sent: its port and its bytes (log 5). -/
structure Sent where
  port  : Port
  bytes : List Byte
  deriving DecidableEq, Repr

/-- The state of the coordinator. The last three fields are the model's own: the queue of waiting commands, the frames
sent so far, and the counter the free values of Config are applied to. -/
structure State where
  mode      : Mode
  now       : Nat
  clock     : Clock
  lanes     : Vector Lane 8
  poses     : Vector (Option Pose) 8
  site      : Site
  air       : Air
  access    : Access
  gov       : Vector GovRec 8
  winds     : Vector WindRec 8
  vanes     : Vector VaneRec 8
  bookings  : List Booking
  recorder  : Recorder
  mgmt      : Mgmt
  line      : Line
  pending   : List Instr
  sent      : List Sent
  freeCount : Nat
  deriving DecidableEq, Repr

/-- Reasons a command could stop the coordinator with a fault. There is none: the spec gives every command an effect in
every state (a frame that is not accepted is discarded, R23 and R161; a request that fails a test is answered REFUSED,
R162). -/
inductive Fault where
  deriving DecidableEq, Repr

/-- Reasons a command has no meaning in the model. -/
inductive Refusal where
  /-- Raised by an arm of `exec` whose command has no meaning yet (safe: the model stops). No arm raises it. -/
  | notModelled (mnemonic : String)
  deriving DecidableEq, Repr

/-- What a command answers. -/
abbrev Out := Host.Outcome State Fault Refusal

/-! ### Values after power-on -/

/-- Lane Interface at power-on (Figure 2-2). -/
def Lane.reset : Lane :=
  { state := .syncing, syncRun := 0, lastSeq := none, tstale := none, tlost := none, cab := .silent, tcab := none,
    control := .halted, lastStep := none, lastAnswer := none, outSeq := 0, clamps := .all false }

/-- An empty staging area (Figure 1-1). -/
def CraneStaging.empty : CraneStaging :=
  { profile := none, map := Vector.replicate 16 none, chart := none, policy := none }

/-- The Site Tables at power-on (Figure 1-1). -/
def Site.reset : Site :=
  { profiles := Vector.replicate 8 none, maps := Vector.replicate 8 none, charts := Vector.replicate 8 none,
    policies := Vector.replicate 8 none, zoneTable := none, staging := Vector.replicate 8 .empty,
    zoneStaging := Vector.replicate 4 none, structural := Vector.replicate 8 none,
    policyCommit := Vector.replicate 8 none }

/-- A FREE zone record (R43). -/
def ZoneRec.reset : ZoneRec := { st := .free, vacate := false, sweepPending := none, queue := [] }

/-- The Zone Arbiter's record of a crane after a reset at instant `now` (Figure 3-3). -/
def ArbRec.reset (now : Nat) : ArbRec :=
  { motionWait := none, reservation := none, lastReload := now, reloadCause := none, yieldZone := none,
    overlaps := [], settling := false }

/-- The Zone Arbiter after a reset at instant `now` (R43, R45). -/
def Air.reset (now : Nat) : Air :=
  { zones := Vector.replicate 64 .reset, cranes := Vector.replicate 8 (.reset now) }

/-- Both permissions denied. -/
def noPerms : PermSet := ⟨false, false⟩

/-- Permission items of a zone at power-on (Figure 4-1). -/
def Perm.reset : Perm := { current := noPerms, override := false, expiry := none }

/-- The Motion Governor's record after a reset (Figure 5-2). -/
def GovRec.reset : GovRec :=
  { requested := .all 0, output := .all 0, permitted := .all none, boundary := .all none, chartMark := .clear,
    overrunMark := false }

/-- The initial values of Figure 6-1, with the activity given. -/
def WindRec.initial (running : Bool) : WindRec :=
  { running := running, level := .calm, last := none, pending := none, window := [], mean := none, figure := none,
    raiseAlert := 0, raiseHold := 0, raiseStow := 0, clearCount := 0, faultRun := 0, faultMark := false }

/-- Vane Control after a reset (Figure 7-2). -/
def VaneRec.reset : VaneRec := { state := .none, start := none, timeout := none, blocked := false }

/-- A counter at zero with its marker clear (Figure 9-2). -/
def Counter.zero : Counter := ⟨0, false⟩

/-- A counter report record that was never filled (R153). -/
def CounterReport.reset : CounterReport := { values := Vector.replicate 9 .zero, stamp := none }

/-- Every report kind but QUEUE_OVERFLOW (R158). -/
def settableKinds : List ReportKind :=
  [.laneState, .cabState, .controlState, .overlap, .intrusion, .breach, .overrun, .staleConflict, .vacateRequest,
   .yieldSet, .waitDropped, .windLevel, .sensorFault, .vaneState, .vaneBlocked, .bookingState, .loadAboveDeclared,
   .chartOverrun, .commitResult, .commitBlocked, .grantExpired, .permissionExpired, .exitOnly, .countersReady,
   .captureReady]

/-- Every trigger kind (R159). -/
def triggerKinds : List TriggerKind :=
  [.overlap, .overrun, .intrusion, .breach, .laneLost, .vaneBlocked, .supervisor]

/-- The reporting settings at power-on (Figure 9-5). -/
def settingsAtPowerOn : Settings :=
  { enabled := settableKinds, declareOnly := [], pace := 50, interval := 0, triggers := triggerKinds }

/-- Counters, reports and capture at power-on (Figure 9-2, R158, R160). The pace timer runs from power-on with the
period of pace 50, 20 ms. -/
def Recorder.reset : Recorder :=
  { counters := Vector.replicate 8 (Vector.replicate 9 .zero), reports := Vector.replicate 8 .reset,
    transferTimer := none, queue := [], overflow := 0, paceTimer := 20, settings := settingsAtPowerOn, capture := none,
    missed := 0 }

/-- The Management Interpreter at power-on (R163, R173). -/
def Mgmt.reset : Mgmt :=
  { structuralTag := Vector.replicate 8 none, policyTag := Vector.replicate 8 none, assembly := none }

/-- No frame in progress at any port (log 25). -/
def Line.reset : Line := { c := Vector.replicate 8 [], d := Vector.replicate 8 [], s := [] }

/-- The coordinator right after power-on (R22 and the power-on columns of Figures 1-1, 2-2, 3-3, 4-1, 5-2, 6-1, 7-2,
9-2, 9-5; R43, R72, R151, R163, R167, R173), with no command waiting. -/
def State.reset : State :=
  { mode := .config, now := 0, clock := ⟨0, 0⟩, lanes := Vector.replicate 8 .reset,
    poses := Vector.replicate 8 none, site := .reset, air := .reset 0,
    access := { perms := Vector.replicate 64 .reset, grants := [] }, gov := Vector.replicate 8 .reset,
    winds := Vector.replicate 8 (.initial false), vanes := Vector.replicate 8 .reset, bookings := [],
    recorder := .reset, mgmt := .reset, line := .reset, pending := [], sent := [], freeCount := 0 }

end Sys2Proof.Machine
end

