-- ==== Sys2Proof/Machine/Operands.lean ====
section
/-! DEFINITION. Bytes and fields: byte order, signed and saturated fields, the check value, the field widths of request
payloads and response data (spec/02, R24; spec/11, R172 to R174). -/

namespace Sys2Proof.Machine

/-! ### Writing fields -/

/-- A one-byte field. -/
def byte (n : Nat) : Byte := BitVec.ofNat 8 n

/-- A two-byte field, most significant byte first (spec/11, after Figure 11-1). -/
def be2 (n : Nat) : List Byte := [byte (n / 256), byte n]

/-- A four-byte field. -/
def be4 (n : Nat) : List Byte := be2 (n / 65536) ++ be2 n

/-- A six-byte field: an instant of the millisecond timebase (R173). -/
def be6 (n : Nat) : List Byte := be2 (n / 4294967296) ++ be4 n

/-- Two's complement in `bits` bits. -/
def twos (bits : Nat) (v : Int) : Nat := (v % (2 ^ bits : Nat)).toNat

/-- A flag as one byte: 1 when set (log 10). -/
def flagByte (b : Bool) : List Byte := [byte (if b then 1 else 0)]

/-- An optional field: a presence byte, then the field, as zeros when absent (R173). -/
def optField {α : Type} (width : Nat) (f : α → List Byte) : Option α → List Byte
  | none => byte 0 :: List.replicate width (byte 0)
  | some a => byte 1 :: f a

/-- A flag set: bit 0 for the first name (R174); bits beyond the names are zero (DEDUCED, log 44). -/
def flagSet (bs : List Bool) : Nat := bs.foldr (fun b n => (if b then 1 else 0) + 2 * n) 0

/-- A set of zones in eight bytes: zone z at bit (z - 1) mod 8 of byte (z - 1) / 8 (R173). -/
def zoneSet (p : Zone → Bool) : List Byte :=
  (List.finRange 8).map fun i => byte (flagSet ((List.finRange 8).map fun j => p ⟨8 * i.val + j.val, by omega⟩))

/-! ### Reading fields of a received frame -/

/-- The bytes from position `i`, `n` of them. -/
def fieldAt (f : List Byte) (i n : Nat) : List Byte := (f.drop i).take n

/-- An unsigned number, most significant byte first. -/
def readBe (bs : List Byte) : Nat := bs.foldl (fun a b => a * 256 + b.toNat) 0

/-- The unsigned field of `n` bytes at position `i`. -/
def unsignedAt (f : List Byte) (i n : Nat) : Nat := readBe (fieldAt f i n)

/-- The signed field of `n` bytes at position `i`, in two's complement. -/
def signedAt (f : List Byte) (i n : Nat) : Int :=
  let v := unsignedAt f i n
  if v < 2 ^ (8 * n - 1) then (v : Int) else (v : Int) - (2 ^ (8 * n) : Nat)

/-- A speed beyond its range becomes the end of the range, keeping its sign (R172). -/
def saturateSpeed (limit : Int) (v : Int) : Int := max (-limit) (min limit v)

/-- A wind sample of 801 to 65,534 becomes 800, and 65,535 stays the fault value (R172). -/
def saturateWind (n : Nat) : Nat := if n = 65535 then 65535 else min n 800

/-! ### The check value (R24) -/

/-- One data bit: shift, and add the polynomial's low sixteen terms when the bit shifted out differs from it. -/
def crcBit (reg : BitVec 16) (bit : Bool) : BitVec 16 :=
  if reg.msb != bit then (reg <<< 1) ^^^ 0x1021#16 else reg <<< 1

/-- One byte, most significant bit first. -/
def crcByte (reg : BitVec 16) (b : Byte) : BitVec 16 :=
  [7, 6, 5, 4, 3, 2, 1, 0].foldl (fun r i => crcBit r (b.getLsbD i)) reg

/-- The check value of a frame's bytes 0 to 29. -/
def checkValue (bs : List Byte) : BitVec 16 := bs.foldl crcByte 0xFFFF#16

/-- A whole frame: 30 bytes and their check value, most significant byte first. -/
def sealFrame (bs : List Byte) : List Byte := bs ++ be2 (checkValue bs).toNat

/-! ### Reading the payload of a request (R173) -/

/-- A position in a payload, with the counter for the bytes the train did not bring (log 11). -/
structure Cursor where
  bytes : List Byte
  free  : Nat

/-- The next byte of the payload; a free byte where the payload has ended. -/
def Cursor.next (c : Cursor) : Nat × Cursor :=
  match c.bytes with
  | b :: bs => (b.toNat, { c with bytes := bs })
  | [] => ((Config.missingByte c.free).toNat, { c with free := c.free + 1 })

/-- An unsigned field of `n` bytes. -/
def Cursor.num : Nat → Cursor → Nat × Cursor
  | 0, c => (0, c)
  | n + 1, c =>
    let (hi, c1) := c.num n
    let (lo, c2) := c1.next
    (hi * 256 + lo, c2)

/-- What a flag or presence byte says: 0 clear, 1 set; the spec gives no other value a meaning (log 10). -/
def flagOf (n : Nat) : Bool := if n = 0 then false else if n = 1 then true else Config.oddFlag n

/-- A single flag. -/
def Cursor.flag (c : Cursor) : Bool × Cursor :=
  let (n, c1) := c.next
  (flagOf n, c1)

/-- An optional field of `n` bytes: the field's bytes follow whether or not it is present. -/
def Cursor.opt (n : Nat) (c : Cursor) : Option Nat × Cursor :=
  let (p, c1) := c.flag
  let (v, c2) := c1.num n
  (if p then some v else none, c2)

/-- `n` entries of a list, read one after the other. -/
def Cursor.many {α : Type} (rd : Cursor → α × Cursor) : Nat → Cursor → List α × Cursor
  | 0, c => ([], c)
  | n + 1, c =>
    let (a, c1) := rd c
    let (rest, c2) := Cursor.many rd n c1
    (a :: rest, c2)

/-- A permission flag set (Figure 11-9): bit 0 JIB-PASS, bit 1 LOAD-PASS. -/
def permSetOf (n : Nat) : PermSet := ⟨n.testBit 0, n.testBit 1⟩

end Sys2Proof.Machine
end

