-- ==== Sys2Proof/Machine/Flags.lean ====
section
/-! DEFINITION. Codes and flags: the codes of Figures 11-1, 11-3 and 11-9 and of the orders R162, Figure 9-4 and Figure
10-1 give; the orders of the state kinds (R155); debouncing (R26); clamp and reason flags (R40, R98). -/

namespace Sys2Proof.Machine

/-! ### Codes (Figures 11-3, 11-9) -/

def laneCode : LaneState → Nat
  | .syncing => 0 | .live => 1 | .stale => 2 | .lost => 3

def windCode : WindLevel → Nat
  | .calm => 0 | .alert => 1 | .hold => 2 | .stow => 3

def vaneCode : VaneState → Nat
  | .none => 0 | .preparing => 1 | .vaning => 2

def answerCode : Answer → Nat
  | .accepted => 0 | .badId => 1 | .notOpen => 2 | .wind => 3 | .notRunning => 4 | .routeBarred => 5 | .badStep => 6

def bookingCode : BookingState → Nat
  | .active => 1 | .suspended => 2 | .logged => 3 | .opened => 4 | .done => 5 | .lapsed => 6 | .cancelled => 7

/-- The code of OVERTIME in a BOOKING_STATE value (Figure 11-9). -/
def overtimeCode : Nat := 8

def suspendCode : SuspendReason → Nat
  | .wind => 1 | .lane => 2 | .halt => 3 | .reset => 4

def controlCode : ControlState → Nat
  | .run => 0 | .halted => 1

def cabCode : CabState → Nat
  | .active => 0 | .silent => 1

def modeCode : Mode → Nat
  | .config => 0 | .operating => 1

def zoneStateCode : ZoneState → Nat
  | .free => 0 | .held _ _ _ => 1 | .swept _ _ => 2

def holdCode : HoldKind → Nat
  | .motion => 1 | .booking => 2 | .frozen => 3 | .exitOnly => 4

def classCode : QClass → Nat
  | .routine => 1 | .booked => 2 | .reserve => 3

def useCode : Use → Nat
  | .jib => 1 | .load => 2

def vacateCode : VacateCause → Nat
  | .holdLimit => 1 | .sweep => 2 | .cycle => 3

/-- Commit outcomes: APPLIED 1, REPLACED 2. -/
def appliedCode : Nat := 1
def replacedCode : Nat := 2

/-- TRIGGER CAPTURE values: KEPT 1, MISSED 2. -/
def keptCode : Nat := 1
def missedCode : Nat := 2

/-- COUNTERS_READY value ALL. -/
def allCode : Nat := 255

/-- CHART_OVERRUN value OVERLOAD. -/
def overloadValue : Nat := 65535

def triggerCode : TriggerKind → Nat
  | .overlap => 1 | .overrun => 2 | .intrusion => 3 | .breach => 4 | .laneLost => 5 | .vaneBlocked => 6
  | .supervisor => 7

def chartMarkCode : ChartMark → Nat
  | .clear => 0 | .limit => 1 | .overload => 2

def axisCode : Option Axis → Nat
  | none => 0 | some .slew => 1 | some .trolley => 2 | some .hoist => 3

def causeCode : Cause → Nat
  | .zone z _ => zoneNum z
  | .cap => 65 | .chart => 66 | .rmax => 67 | .rmin => 68 | .stowRadius => 69 | .top => 70 | .wind => 71
  | .overload => 72

def permCode (p : PermSet) : Nat := flagSet [p.jib, p.load]

/-- Refusal reasons, numbered from 1 in the order of R162. -/
def reasonCode : Reason → Nat
  | .badTarget => 1 | .badState => 2 | .range => 3 | .tableFull => 4 | .duplicate => 5 | .incomplete => 6
  | .invalid => 7 | .conflict => 8 | .notPermitted => 9

/-- Report kinds, numbered from 1 in the order of Figure 9-4. -/
def reportCode : ReportKind → Nat
  | .laneState => 1 | .cabState => 2 | .controlState => 3 | .overlap => 4 | .intrusion => 5 | .breach => 6
  | .overrun => 7 | .staleConflict => 8 | .vacateRequest => 9 | .yieldSet => 10 | .waitDropped => 11
  | .windLevel => 12 | .sensorFault => 13 | .vaneState => 14 | .vaneBlocked => 15 | .bookingState => 16
  | .loadAboveDeclared => 17 | .chartOverrun => 18 | .commitResult => 19 | .commitBlocked => 20
  | .grantExpired => 21 | .permissionExpired => 22 | .exitOnly => 23 | .countersReady => 24 | .captureReady => 25
  | .queueOverflow => 26

/-- Request kinds, numbered from 1 in the order of Figure 10-1. -/
inductive Req where
  | loadSegment | commit | commence | siteReset | craneRestart | setSiteTime | haltCrane | releaseCrane | resumeCrane
  | forceReleaseZone | setZonePermissions | grantAccess | revokeAccess | bookLift | cancelBooking | retireBooking
  | readCrane | readZone | readBooking | readCounters | readCapture | snapshotCounters | setReporting | triggerCapture
  deriving DecidableEq, Repr

def reqCode : Req → Nat
  | .loadSegment => 1 | .commit => 2 | .commence => 3 | .siteReset => 4 | .craneRestart => 5 | .setSiteTime => 6
  | .haltCrane => 7 | .releaseCrane => 8 | .resumeCrane => 9 | .forceReleaseZone => 10 | .setZonePermissions => 11
  | .grantAccess => 12 | .revokeAccess => 13 | .bookLift => 14 | .cancelBooking => 15 | .retireBooking => 16
  | .readCrane => 17 | .readZone => 18 | .readBooking => 19 | .readCounters => 20 | .readCapture => 21
  | .snapshotCounters => 22 | .setReporting => 23 | .triggerCapture => 24

/-! ### Orders of the state kinds (R155): a change toward an earlier state is a clear edge -/

def laneRank : LaneState → Nat
  | .live => 0 | .syncing => 1 | .stale => 2 | .lost => 3

def cabRank : CabState → Nat
  | .active => 0 | .silent => 1

def controlRank : ControlState → Nat
  | .run => 0 | .halted => 1

/-- CALM < ALERT < HOLD < STOW (spec/06, section 6.4). -/
def windRank : WindLevel → Nat := windCode

def vaneRank : VaneState → Nat := vaneCode

/-! ### Debounced flags (R26, Figure 2-3) -/

/-- A debounced flag that is clear, as an emptied record gives it (R26). -/
def Debounced.clear : Debounced := ⟨false, false⟩

/-- One accepted pose showing `seen`. -/
def Debounced.judge (f : Debounced) (seen : Bool) : Debounced :=
  if seen = f.value then { f with candidate := false }
  else if f.candidate then ⟨seen, false⟩
  else { f with candidate := true }

/-! ### Flags of outgoing demands (R40, R98) -/

/-- The reason flags (Figure 2-6). -/
structure ReasonFlags where
  mode : Bool
  halt : Bool
  lane : Bool
  vane : Bool
  deriving DecidableEq, Repr

/-- One of the conditions of R40 holds. -/
def ReasonFlags.any (f : ReasonFlags) : Bool := f.mode || f.halt || f.lane || f.vane

/-- The clamp flag of an axis: the output magnitude is below the requested magnitude (R98). -/
def clampFlag (requested output : Int) : Bool := output.natAbs < requested.natAbs

/-- The three clamp flags (R98). -/
def clampFlags (requested output : PerAxis Int) : PerAxis Bool :=
  ⟨clampFlag requested.slew output.slew, clampFlag requested.trolley output.trolley,
   clampFlag requested.hoist output.hoist⟩

/-- Clamp flags as bits 0 to 2, slew, trolley, hoist (Figures 11-2, 11-5). -/
def clampBits (c : PerAxis Bool) : List Bool := [c.slew, c.trolley, c.hoist]

end Sys2Proof.Machine
end

