-- ==== Sys2Proof/Machine/Ops.lean ====
section
/-! DEFINITION. The named operations every block works with: reading and writing the records of the state, time, counters
(R152), the Report Queue (R155), the Capture Buffer (R159), and sending a frame. -/

namespace Sys2Proof.Machine

/-! ### Records of the state -/

namespace State

def lane (s : State) (k : Crane) : Lane := s.lanes[k]
def setLane (s : State) (k : Crane) (l : Lane) : State := { s with lanes := s.lanes.set k l }
def pose (s : State) (k : Crane) : Option Pose := s.poses[k]
def setPose (s : State) (k : Crane) (p : Option Pose) : State := { s with poses := s.poses.set k p }
def govRec (s : State) (k : Crane) : GovRec := s.gov[k]
def setGov (s : State) (k : Crane) (g : GovRec) : State := { s with gov := s.gov.set k g }
def wind (s : State) (k : Crane) : WindRec := s.winds[k]
def setWind (s : State) (k : Crane) (w : WindRec) : State := { s with winds := s.winds.set k w }
def vane (s : State) (k : Crane) : VaneRec := s.vanes[k]
def setVane (s : State) (k : Crane) (v : VaneRec) : State := { s with vanes := s.vanes.set k v }
def zone (s : State) (z : Zone) : ZoneRec := s.air.zones[z]
def setZone (s : State) (z : Zone) (r : ZoneRec) : State :=
  { s with air := { s.air with zones := s.air.zones.set z r } }
def arb (s : State) (k : Crane) : ArbRec := s.air.cranes[k]
def setArb (s : State) (k : Crane) (a : ArbRec) : State :=
  { s with air := { s.air with cranes := s.air.cranes.set k a } }
def perm (s : State) (z : Zone) : Perm := s.access.perms[z]
def setPerm (s : State) (z : Zone) (p : Perm) : State :=
  { s with access := { s.access with perms := s.access.perms.set z p } }
def setGrants (s : State) (g : List Grant) : State := { s with access := { s.access with grants := g } }
def profile (s : State) (k : Crane) : Option Profile := s.site.profiles[k]
def map (s : State) (k : Crane) : Option ReachMap := s.site.maps[k]
def chart (s : State) (k : Crane) : Option Chart := s.site.charts[k]
def policy (s : State) (k : Crane) : Option Policy := s.site.policies[k]
def setSite (s : State) (t : Site) : State := { s with site := t }
def setRecorder (s : State) (r : Recorder) : State := { s with recorder := r }
def setMgmt (s : State) (m : Mgmt) : State := { s with mgmt := m }
def setBookings (s : State) (b : List Booking) : State := { s with bookings := b }

end State

/-- The value on one axis. -/
def onAxis {α : Type} (p : PerAxis α) : Axis → α
  | .slew => p.slew | .trolley => p.trolley | .hoist => p.hoist

/-- The crane that holds the zone, or that it is SWEPT for (R43). -/
def ZoneRec.holder (r : ZoneRec) : Option Crane :=
  match r.st with
  | .free => none
  | .held k _ _ => some k
  | .swept k _ => some k

/-- The holder of a zone in state HELD. -/
def ZoneRec.heldBy (r : ZoneRec) : Option Crane :=
  match r.st with
  | .held k _ _ => some k
  | _ => none

/-- The crane a SWEPT zone is swept for. -/
def ZoneRec.sweptFor (r : ZoneRec) : Option Crane :=
  match r.st with
  | .swept k _ => some k
  | _ => none

/-- The hold kind, absent unless HELD (R43). -/
def ZoneRec.kind (r : ZoneRec) : Option HoldKind :=
  match r.st with
  | .held _ h _ => some h
  | _ => none

/-- The taken instant, absent when FREE (R43). -/
def ZoneRec.taken (r : ZoneRec) : Option Nat :=
  match r.st with
  | .free => none
  | .held _ _ t => some t
  | .swept _ t => some t

/-- A change of hold kind leaves the holder, the taken instant and the vacate mark as they were (R44). -/
def ZoneRec.withKind (r : ZoneRec) (h : HoldKind) : ZoneRec :=
  match r.st with
  | .held k _ t => { r with st := .held k h t }
  | _ => r

/-! ### Site image (R1, R3) -/

/-- The zone is present: the active zone table is present and says so (R1, R3). -/
def zonePresent (s : State) (z : Zone) : Bool :=
  match s.site.zoneTable with
  | none => false
  | some t => t[z].present

/-- A crane is present when its active profile is present and the profile's present flag is set (R1). -/
def cranePresent (s : State) (k : Crane) : Bool :=
  match s.profile k with
  | none => false
  | some p => p.present

/-- A table of crane k as it takes part in a computation: the table of a crane that is not present takes none (R1).
The lane timers alone use the profile of a crane that is not present, as R22 says. -/
def inForce {α : Type} (s : State) (k : Crane) (table : Option α) : Option α :=
  if cranePresent s k then table else none

/-- The hold limit of a zone in seconds in the active zone table; 0 where there is none (R3). -/
def holdLimit (s : State) (z : Zone) : Nat :=
  match s.site.zoneTable with
  | none => 0
  | some t => if t[z].present then t[z].holdLimit else 0

/-- The base permissions of a zone in the active zone table; both denied for a zone not present (R68). -/
def basePerms (s : State) (z : Zone) : PermSet :=
  match s.site.zoneTable with
  | none => noPerms
  | some t => if t[z].present then t[z].base else noPerms

/-! ### Time (R167) -/

/-- The present site time with the millisecond elapsed since the second start, 0 to 999 (R167; log 7). -/
def State.stamp (s : State) : Stamp := ⟨s.clock.siteTime, min 999 (s.now - s.clock.secondStart)⟩

/-- The timebase has reached instant `t` (log 3). -/
def State.waitUntil (s : State) (t : Nat) : State := { s with now := max s.now t }

/-- Site time has reached `t`: the timebase has moved on by the seconds between, and with it the second start (R167;
log 3). -/
def State.waitSite (s : State) (t : Nat) : State :=
  if t ≤ s.clock.siteTime then s
  else
    let start := s.clock.secondStart + 1000 * (t - s.clock.siteTime)
    { s with now := max s.now start, clock := ⟨t, start⟩ }

/-! ### Counters (R152) -/

/-- Where a counter stands in Figure 9-1. -/
def CounterId.idx : CounterId → Fin 9
  | .slewClamps => 0 | .trolleyClamps => 1 | .hoistClamps => 2 | .intrusions => 3 | .overlaps => 4 | .overruns => 5
  | .frameErrors => 6 | .seqGaps => 7 | .stopSubstitutes => 8

/-- A count adds its amount; past 65,535 the counter stays there and its marker is set (R152). -/
def Counter.add (c : Counter) (n : Nat) : Counter :=
  if c.value + n > 65535 then ⟨65535, true⟩ else { c with value := c.value + n }

/-- A live counter of crane k. -/
def State.counter (s : State) (k : Crane) (c : CounterId) : Counter := (s.recorder.counters[k])[c.idx]

/-- Count `n` on a counter of crane k (R152). -/
def count (k : Crane) (c : CounterId) (n : Nat) (s : State) : State :=
  let row := s.recorder.counters[k]
  s.setRecorder { s.recorder with counters := s.recorder.counters.set k (row.set c.idx ((row[c.idx]).add n)) }

/-! ### Report Queue (R155) -/

/-- A report as a rule offers it. `clearEdge` is meant for the state kinds only. -/
structure Offer where
  kind      : ReportKind
  crane     : Option Crane := none
  zone      : Option Zone := none
  booking   : Option Nat := none
  value     : Nat := 0
  clearEdge : Bool := false

/-- An entry of the same kind and the same crane, two absent cranes counting as the same (R155 step 3). -/
def Report.matches (e : Report) (o : Offer) : Bool := e.kind == o.kind && e.crane == o.crane

/-- Coalescing (R155 step 3). -/
def Report.coalesce (e : Report) (o : Offer) (now : Stamp) : Report :=
  { e with count := min 255 (e.count + 1), last := now, value := o.value, zone := o.zone, booking := o.booking }

/-- A new entry (R155 step 4). -/
def Offer.entry (o : Offer) (now : Stamp) : Report :=
  { kind := o.kind, crane := o.crane, zone := o.zone, booking := o.booking, value := o.value, count := 1,
    first := now, last := now }

/-- The offered report passes the enable and edge tests (R155 steps 1 and 2). -/
def passes (st : Settings) (o : Offer) : Bool :=
  st.enabled.contains o.kind && !(o.clearEdge && st.declareOnly.contains o.kind)

/-- Offer a report to the Report Queue (R155, R156). -/
def offer (o : Offer) (s : State) : State :=
  let r := s.recorder
  if passes r.settings o then
    if r.queue.any (·.matches o) then
      s.setRecorder { r with queue := r.queue.map fun e => if e.matches o then e.coalesce o s.stamp else e }
    else if r.queue.length < 32 then
      s.setRecorder { r with queue := r.queue ++ [o.entry s.stamp] }
    else
      s.setRecorder { r with overflow := min 65535 (r.overflow + 1) }
  else s

/-! ### Capture Buffer (R159) -/

/-- What a capture takes of crane k, as it stands (R159). -/
def snapshotOf (s : State) (k : Crane) : Snapshot :=
  ⟨s.pose k, (s.lane k).state, (s.wind k).level, (s.vane k).state⟩

/-- Offer a capture trigger (R159). -/
def trigger (t : TriggerKind) (k : Option Crane) (z : Option Zone) (s : State) : State :=
  let r := s.recorder
  if r.settings.triggers.contains t then
    match r.capture with
    | none =>
      let c : Capture := { stamp := s.stamp, trigger := t, crane := k, zone := z,
                           snapshots := Vector.ofFn (snapshotOf s) }
      offer { kind := .captureReady, crane := k, zone := z, value := triggerCode t }
        (s.setRecorder { r with capture := some c })
    | some _ => s.setRecorder { r with missed := min 255 (r.missed + 1) }
  else s

/-! ### Sending -/

/-- A frame leaves on a port: 30 bytes and the check value (R24, R171). -/
def send (p : Port) (bs : List Byte) (s : State) : State :=
  { s with sent := s.sent ++ [⟨p, sealFrame bs⟩] }

/-! ### Changes of state that are reported (R29, R33, R35) -/

/-- The lane state becomes `new`; a change is reported as LANE_STATE (R29). -/
def setLaneState (k : Crane) (new : LaneState) (s : State) : State :=
  let l := s.lane k
  let s1 := s.setLane k { l with state := new }
  if l.state = new then s1
  else offer { kind := .laneState, crane := some k, value := laneCode new,
               clearEdge := laneRank new < laneRank l.state } s1

/-- The cab state becomes `new`; a change is reported as CAB_STATE (R33). -/
def setCabState (k : Crane) (new : CabState) (s : State) : State :=
  let l := s.lane k
  let s1 := s.setLane k { l with cab := new }
  if l.cab = new then s1
  else offer { kind := .cabState, crane := some k, value := cabCode new, clearEdge := cabRank new < cabRank l.cab } s1

/-- The control state becomes `new`; a change is reported as CONTROL_STATE (R35). -/
def setControl (k : Crane) (new : ControlState) (s : State) : State :=
  let l := s.lane k
  let s1 := s.setLane k { l with control := new }
  if l.control = new then s1
  else offer { kind := .controlState, crane := some k, value := controlCode new,
               clearEdge := controlRank new < controlRank l.control } s1

/-- The vane record becomes `v`; a change of vane state is reported as VANE_STATE (R119). -/
def setVaneRec (k : Crane) (v : VaneRec) (s : State) : State :=
  let old := (s.vane k).state
  let s1 := s.setVane k v
  if old = v.state then s1
  else offer { kind := .vaneState, crane := some k, value := vaneCode v.state,
               clearEdge := vaneRank v.state < vaneRank old } s1

end Sys2Proof.Machine
end

