-- ==== Sys2Proof/Machine/Geometry.lean ====
section
/-! DEFINITION. What the blocks compute from the tables and a pose and never store: stopping distance and permitted speed
(R81, R82), footprint, use, reach set and widened set (R7 to R9, R65), load chart (R94, R95), the entitlement test (R77),
and the zones of a leg with the kind of a new hold (R44). -/

namespace Sys2Proof.Machine

/-! ### Stopping distance and permitted speed -/

/-- ⌈a / b⌉ for natural numbers (spec/00, Arithmetic Notation). -/
def ceilDiv (a b : Nat) : Nat := (a + b - 1) / b

/-- S(v) = ⌈|v|·T / 1000⌉ + ⌈v² / (2A)⌉, each term rounded up on its own (R81). -/
def stopDist (a : AxisDyn) (v : Nat) : Nat := ceilDiv (v * a.reaction) 1000 + ceilDiv (v * v) (2 * a.decel)

/-- The largest v from `n` down to 0 with S(v) ≤ d. -/
def largestSpeed (a : AxisDyn) (d : Nat) : Nat → Nat
  | 0 => 0
  | n + 1 => if stopDist a (n + 1) ≤ d then n + 1 else largestSpeed a d n

/-- v_perm(d) (R82). -/
def permittedSpeed (a : AxisDyn) (d : Int) : Nat := if d ≤ 0 then 0 else largestSpeed a d.toNat a.vcap

/-! ### Footprint and use -/

/-- A zone of a footprint with its use (R7, R8). -/
structure Occ where
  zone : Zone
  use  : Use
  deriving DecidableEq, Repr

/-- The clear height of a zone in a zone table; 0 where there is none, so that no hook lies beneath it (R1). -/
def clearHeight (t : Option ZoneTable) (z : Zone) : Nat :=
  match t with
  | none => 0
  | some t => t[z].clearHeight

/-- The use of a zone contributed by a HOOK claim (R8). -/
def hookUse (p : Profile) (load : Nat) : Use := if load < p.emptyHook then .jib else .load

/-- The sector of a slew angle. -/
def sectorOf (theta : Nat) : Nat := theta / 256

/-- What one claim contributes at radius r, height h and load (R7, R8). -/
def claimOcc (t : Option ZoneTable) (prof : Profile) (p : Pose) (c : Claim) : Option Occ :=
  match c.cls with
  | .jib => some ⟨c.zone, .jib⟩
  | .hook lo hi =>
    if lo ≤ p.r ∧ p.r ≤ hi ∧ p.h < clearHeight t c.zone then some ⟨c.zone, hookUse prof p.load⟩ else none

/-- The claims of a sector. -/
def sectorClaims (m : ReachMap) (sec : Nat) : List Claim := m.getD sec []

/-- The footprint at a sector under given tables (R7); a crane that is not present has none (R1). -/
def footprintOf (t : Option ZoneTable) (prof : Profile) (m : ReachMap) (p : Pose) (sec : Nat) : List Occ :=
  if prof.present then (sectorClaims m sec).filterMap (claimOcc t prof p) else []

/-- The footprint of crane k at a sector, with the r, h and load of a pose, under the active tables (R7). -/
def footprintAt (s : State) (k : Crane) (p : Pose) (sec : Nat) : List Occ :=
  match s.profile k, s.map k with
  | some prof, some m => footprintOf s.site.zoneTable prof m p sec
  | _, _ => []

/-- The footprint of crane k at its pose record; empty for an empty record (R7). -/
def footprint (s : State) (k : Crane) : List Occ :=
  match s.pose k with
  | none => []
  | some p => footprintAt s k p (sectorOf p.theta)

/-- The use of a zone in a set of zones, absent when the zone is not in it; LOAD prevails over JIB (R8, R9). -/
def useIn (f : List Occ) (z : Zone) : Option Use :=
  if f.any (fun o => o.zone == z && o.use == .load) then some .load
  else if f.any (fun o => o.zone == z) then some .jib
  else none

/-! ### Reach set and widened set -/

/-- The sector `j` sectors beyond `s0` in a direction, modulo 256. -/
def sectorStep (positive : Bool) (s0 j : Nat) : Nat :=
  if positive then (s0 + j) % 256 else (s0 + 256 - j % 256) % 256

/-- How many sectors beyond the pose's own a travel of `dist` from `theta` enters, up to 128 (R9, R65). -/
def sectorsWithin (positive : Bool) (theta dist : Nat) : Nat :=
  if positive then min 128 ((theta + dist) / 256 - theta / 256)
  else min 128 ((theta : Int) / 256 - ((theta : Int) - (dist : Int)) / 256).toNat

/-- The footprints, at the pose's r, h and load, of the sectors a travel of `dist` enters. -/
def sweptFootprints (s : State) (k : Crane) (p : Pose) (positive : Bool) (dist : Nat) : List Occ :=
  (List.range (sectorsWithin positive p.theta dist)).flatMap fun i =>
    footprintAt s k p (sectorStep positive (sectorOf p.theta) (i + 1))

/-- The reach set of crane k at its pose record (R9). -/
def reachSet (s : State) (k : Crane) : List Occ :=
  match s.pose k, s.profile k with
  | some p, some prof =>
    let own := footprintAt s k p (sectorOf p.theta)
    if p.speed.slew = 0 then own
    else own ++ sweptFootprints s k p (0 < p.speed.slew) (stopDist prof.dyn.slew p.speed.slew.natAbs)
  | _, _ => []

/-- The widened set of crane k (R65): S(slew Vcap) in both directions. -/
def widenedSet (s : State) (k : Crane) : List Occ :=
  match s.pose k, s.profile k with
  | some p, some prof =>
    let dist := stopDist prof.dyn.slew prof.dyn.slew.vcap
    footprintAt s k p (sectorOf p.theta) ++ sweptFootprints s k p true dist ++ sweptFootprints s k p false dist
  | _, _ => []

/-- The zones a map JIB-claims anywhere: the sweep set (R121), and what check 6 compares (R15). -/
def jibZones (m : ReachMap) (z : Zone) : Bool := m.any fun cs => cs.any fun c => c.zone == z && c.cls == .jib

/-- The zones a map claims anywhere. -/
def claims (m : ReachMap) (z : Zone) : Bool := m.any fun cs => cs.any fun c => c.zone == z

/-! ### Load chart (R94, R95) -/

/-- The derate percentage of a wind level (R94). -/
def derate (pol : Option Policy) (l : WindLevel) : Nat :=
  match pol with
  | none => 0
  | some p =>
    match l with
    | .calm => 0
    | .alert => p.derateAlert
    | .hold => p.derateHold
    | .stow => p.derateHold

/-- The derated rating of an entry (R94). -/
def derated (pct : Nat) (e : ChartEntry) : Nat := e.rating * (100 - pct) / 100

/-- The derated rated load at a radius (R94); at 0 percent, the rated load. -/
def ratedLoad (pct : Nat) (c : Chart) (r : Nat) : Nat :=
  match c.find? (fun e => r ≤ e.bound) with
  | some e => derated pct e
  | none => 0

/-- Overload: the derated rating of entry 0 is below the load (R95). -/
def overloaded (pct : Nat) (c : Chart) (load : Nat) : Bool :=
  match c with
  | [] => false
  | e :: _ => derated pct e < load

/-- The radius limit: the bound of the last entry that still carries the load, absent in overload (R95). -/
def radiusLimit (pct : Nat) (c : Chart) (load : Nat) : Option Nat :=
  if overloaded pct c load then none
  else ((c.filter fun e => load ≤ derated pct e).getLast?).map (·.bound)

/-- The derate percentage in force for crane k (R94). -/
def derateOf (s : State) (k : Crane) : Nat := derate (inForce s k (s.policy k)) (s.wind k).level

/-- Crane k is in overload at its pose record (R95); a crane that is not present is not (R1). -/
def inOverload (s : State) (k : Crane) : Bool :=
  match s.pose k, inForce s k (s.chart k) with
  | some p, some c => overloaded (derateOf s k) c p.load
  | _, _ => false

/-- The radius limit of crane k at its pose record (R95); a crane that is not present has none (R1). -/
def limitOf (s : State) (k : Crane) : Option Nat :=
  match s.pose k, inForce s k (s.chart k) with
  | some p, some c => radiusLimit (derateOf s k) c p.load
  | _, _ => none

/-! ### Entitlement (R77) -/

/-- The permission a use needs (R77). -/
def permGives (p : PermSet) : Use → Bool
  | .jib => p.jib
  | .load => p.load

/-- Crane k may use zone z for use u (R77). -/
def mayUse (s : State) (k : Crane) (z : Zone) (u : Use) : Bool :=
  zonePresent s z
    && (permGives (s.perm z).current u
        || s.access.grants.any fun g => g.crane == k && g.zone == z && permGives g.uses u)

/-! ### The lift in flight (R44) -/

/-- The booking of crane k that is ACTIVE; there is at most one (R145). -/
def activeBooking (s : State) (k : Crane) : Option Booking :=
  s.bookings.find? fun b => b.crane == k && b.state == .active

/-- The booking of crane k that is SUSPENDED. -/
def suspendedBooking (s : State) (k : Crane) : Option Booking :=
  s.bookings.find? fun b => b.crane == k && b.state == .suspended

/-- The booking of crane k in ACTIVE or SUSPENDED (R42). -/
def openLift (s : State) (k : Crane) : Option Booking :=
  s.bookings.find? fun b => b.crane == k && (b.state == .active || b.state == .suspended)

/-- The zones of the leg: route[i] and, when i < n, route[i+1] (R44). -/
def legZones (b : Booking) : List Zone := (b.route.drop (b.leg - 1)).take 2

/-- The zones of the current leg of crane k's ACTIVE booking; none without one. -/
def currentLeg (s : State) (k : Crane) : List Zone :=
  match activeBooking s k with
  | none => []
  | some b => legZones b

/-- The kind of a new hold: BOOKING on the current leg, MOTION otherwise (R44). -/
def kindFor (s : State) (k : Crane) (z : Zone) : HoldKind :=
  if (currentLeg s k).contains z then .booking else .motion

end Sys2Proof.Machine
end

