-- ==== Sys2Proof/Machine/Queues.lean ====
section
/-! DEFINITION. The Zone Arbiter's wait queues and marks: acquisition (R44), entries and their classes (R53), withdrawal
(R56), vacate marks (R59), the hold limit (R58), reservations (R55), release and grant (R51, R52), and the entry into
VANING that a release can complete (R122). -/

namespace Sys2Proof.Machine

/-! ### Holds -/

/-- The zone becomes HELD by k: taken instant now, vacate mark clear (R44). -/
def acquire (k : Crane) (z : Zone) (h : HoldKind) (s : State) : State :=
  s.setZone z { s.zone z with st := .held k h s.now, vacate := false }

/-- The hold of a zone changes its kind (R44). -/
def setKind (z : Zone) (h : HoldKind) (s : State) : State := s.setZone z ((s.zone z).withKind h)

/-- The zone is HELD by k. -/
def isHeldBy (s : State) (k : Crane) (z : Zone) : Bool := (s.zone z).heldBy == some k

/-- The zone is held by k in the sense of R46: HELD or SWEPT. -/
def isHolder (s : State) (k : Crane) (z : Zone) : Bool := (s.zone z).holder == some k

/-! ### Vacate marks (R59) -/

/-- Set the vacate mark on a hold, unless it is set already, and report VACATE_REQUEST with the cause (R59). -/
def markVacate (z : Zone) (cause : VacateCause) (s : State) : State :=
  match (s.zone z).heldBy with
  | none => s
  | some j =>
    if (s.zone z).vacate then s
    else offer { kind := .vacateRequest, crane := some j, zone := some z, value := vacateCode cause }
          (s.setZone z { s.zone z with vacate := true })

/-- The vacate mark is cleared when the queue is empty while sweep-pending is absent (R56, R59). -/
def clearIdleMark (z : Zone) (s : State) : State :=
  let r := s.zone z
  if r.queue.isEmpty && r.sweepPending.isNone then s.setZone z { r with vacate := false } else s

/-! ### Hold limit (R58) -/

/-- The limit instant of a hold that is subject to the hold limit; absent otherwise (R58). -/
def limitInstant (s : State) (z : Zone) : Option Nat :=
  let r := s.zone z
  match r.st with
  | .held k .motion taken =>
    if holdLimit s z ≠ 0 ∧ r.queue ≠ [] ∧ r.vacate = false then
      some (max (s.arb k).lastReload taken + 1000 * holdLimit s z)
    else none
  | _ => none

/-- The limit instant of the zone's hold has been reached (R58). -/
def limitReached (s : State) (z : Zone) : Bool :=
  match limitInstant s z with
  | none => false
  | some t => t ≤ s.now

/-- The test made at once when a hold becomes subject to the hold limit (R58). -/
def judgeLimit (z : Zone) (s : State) : State := if limitReached s z then markVacate z .holdLimit s else s

/-! ### Queue entries (R53) -/

/-- Crane c's motion wait is on zone z. -/
def waitsAt (s : State) (c : Crane) (z : Zone) : Bool :=
  match (s.arb c).motionWait with
  | none => false
  | some w => w.zone == z

/-- Crane c's reservation is on zone z. -/
def reservesAt (s : State) (c : Crane) (z : Zone) : Bool := (s.arb c).reservation == some z

/-- The class of crane c's entry in the queue of z (R53, Figure 3-6). -/
def entryClass (s : State) (c : Crane) (z : Zone) : QClass :=
  if reservesAt s c z then (if waitsAt s c z then .booked else .reserve)
  else if (currentLeg s c).contains z then .booked
  else .routine

/-- The use of crane c's entry in the queue of z: LOAD when it stands for a reservation, otherwise the use given with
the motion wait (R53). -/
def entryUse (s : State) (c : Crane) (z : Zone) : Use :=
  if reservesAt s c z then .load
  else match (s.arb c).motionWait with
    | none => .load
    | some w => w.use

/-- The entry crane c has in the queue of z, as its record stands. -/
def entryFor (s : State) (c : Crane) (z : Zone) : Entry := ⟨c, entryClass s c z, entryUse s c z⟩

/-- Crane c has an entry in the queue of z. -/
def hasEntry (s : State) (c : Crane) (z : Zone) : Bool := (s.zone z).queue.any fun e => e.crane == c

/-- Crane c's entry in the queue of z has its class and use judged again, in its place (R53). -/
def refreshEntry (c : Crane) (z : Zone) (s : State) : State :=
  let r := s.zone z
  s.setZone z { r with queue := r.queue.map fun e => if e.crane == c then entryFor s c z else e }

/-- Crane c's entry leaves the queue of z; the entries behind it move up (R56). -/
def removeEntry (c : Crane) (z : Zone) (s : State) : State :=
  let r := s.zone z
  clearIdleMark z (s.setZone z { r with queue := r.queue.filter fun e => !(e.crane == c) })

/-- After a withdrawal: an entry that still stands for something is judged again in its place, one that stands for
nothing more is removed (R56). -/
def settleEntry (c : Crane) (z : Zone) (s : State) : State :=
  if reservesAt s c z || waitsAt s c z then refreshEntry c z s else removeEntry c z s

/-- Crane c joins the queue of z, or its entry there is judged again in its place. A waiter that joins can make the hold
subject to the hold limit (R54, R55, R58). -/
def joinQueue (c : Crane) (z : Zone) (s : State) : State :=
  if hasEntry s c z then refreshEntry c z s
  else
    let r := s.zone z
    judgeLimit z (s.setZone z { r with queue := r.queue ++ [entryFor s c z] })

/-- Crane c's motion wait is withdrawn (R56). -/
def withdrawWait (c : Crane) (s : State) : State :=
  match (s.arb c).motionWait with
  | none => s
  | some w => settleEntry c w.zone (s.setArb c { s.arb c with motionWait := none })

/-- Crane c's reservation is withdrawn (R56). -/
def withdrawReservation (c : Crane) (s : State) : State :=
  match (s.arb c).reservation with
  | none => s
  | some z => settleEntry c z (s.setArb c { s.arb c with reservation := none })

/-- Every entry of crane c has its class judged again, without moving (R53). -/
def rejudgeEntries (c : Crane) (s : State) : State :=
  let s1 := match (s.arb c).motionWait with
    | none => s
    | some w => refreshEntry c w.zone s
  match (s1.arb c).reservation with
  | none => s1
  | some z => refreshEntry c z s1

/-- Crane c's entry in the queue of z is taken out together with the motion wait or reservation, or both, that it stands
for (R51 step 1, R52). -/
def dropEntry (c : Crane) (z : Zone) (s : State) : State :=
  let a := s.arb c
  let a1 := if waitsAt s c z then { a with motionWait := none } else a
  let a2 := if reservesAt s c z then { a1 with reservation := none } else a1
  removeEntry c z (s.setArb c a2)

/-- Zone z is waitable for crane k and use u (R54). -/
def waitable (s : State) (k : Crane) (z : Zone) (u : Use) : Bool :=
  zonePresent s z
    && (match (s.zone z).heldBy with | none => false | some j => j != k)
    && (s.zone z).sweepPending.isNone && mayUse s k z u

/-! ### Reservations (R55) -/

/-- The zone crane k's reservation is to stand on: the first zone of the leg that k does not hold, if it is waitable for
k with use LOAD (R55). -/
def reservationZone (s : State) (k : Crane) : Option Zone :=
  match (currentLeg s k).find? (fun z => !isHolder s k z) with
  | none => none
  | some z => if waitable s k z .load then some z else none

/-- The placement of crane k's reservation (R55): an old one on another zone is withdrawn first. -/
def placeReservation (k : Crane) (s : State) : State :=
  match reservationZone s k with
  | none => withdrawReservation k s
  | some z =>
    let s1 := if reservesAt s k z then s else withdrawReservation k s
    joinQueue k z (s1.setArb k { s1.arb k with reservation := some z })

/-! ### Vaning (R119, R122) -/

/-- Some zone still has sweep-pending k. -/
def sweepPendingFor (s : State) (k : Crane) : List Zone :=
  allZones.filter fun z => (s.zone z).sweepPending == some k

/-- Crane k, PREPARING with no zone pending, enters VANING (R122). -/
def checkVaning (k : Crane) (s : State) : State :=
  if (s.vane k).state = .preparing ∧ sweepPendingFor s k = [] then
    setVaneRec k { state := .vaning, start := none, timeout := none, blocked := false } s
  else s

/-! ### Release and grant (R51, R52) -/

/-- Zone z is granted to crane c's entry (R52): HELD with the kind of R44, the entry and what it stood for gone, the
reservation placed again when the entry included it, and the hold limit judged at once. -/
def grant (c : Crane) (z : Zone) (s : State) : State :=
  let reserved := reservesAt s c z
  let s1 := dropEntry c z s
  let s2 := acquire c z (kindFor s1 c z) s1
  let s3 := if reserved then placeReservation c s2 else s2
  judgeLimit z s3

/-- The candidates are offered the grant in turn; one whose crane may not use the zone is dropped with WAIT_DROPPED; with
none left the zone is FREE (R51, R52). -/
def offerGrant (z : Zone) : List Entry → State → State
  | [], s => s
  | e :: es, s =>
    if mayUse s e.crane z e.use then grant e.crane z s
    else offerGrant z es (offer { kind := .waitDropped, crane := some e.crane, zone := some z } (dropEntry e.crane z s))

/-- The order in which entries are offered the grant: BOOKED and RESERVE in queue order, then ROUTINE in queue order
(R51). -/
def grantOrder (q : List Entry) : List Entry :=
  q.filter (fun e => e.cls != .routine) ++ q.filter fun e => e.cls == .routine

/-- Zone z is released (R51): hold kind, taken instant and vacate mark are cleared, and the zone goes to the
sweep-pending crane, to a waiter, or becomes FREE. -/
def release (z : Zone) (s : State) : State :=
  let s0 := s.setZone z { s.zone z with st := .free, vacate := false }
  match (s.zone z).sweepPending with
  | some c =>
    let s1 := dropEntry c z s0
    checkVaning c (s1.setZone z { s1.zone z with st := .swept c s.now, sweepPending := none })
  | none => offerGrant z (grantOrder (s.zone z).queue) s0

end Sys2Proof.Machine
end

