-- ==== Sys2Proof/Machine/Frames.lean ====
section
/-! DEFINITION. Frames: the tests a received frame must pass (R23, R161, R171), the fields of a received pose and demand
(R172), and the frames the coordinator builds (Figures 11-2, 11-5, 11-7, 11-8; R41, R42, R161, R174). -/

namespace Sys2Proof.Machine

/-! ### Received frames -/

/-- The bytes of a received frame without their stop bits. -/
def plainBytes (f : List RxByte) : List Byte := f.map (·.byte)

/-- The check value is right: 32 bytes, every stop bit there, and bytes 30 and 31 equal to the value over bytes 0 to 29
(R24, R171). -/
def checkOk (f : List RxByte) : Bool :=
  f.length == 32 && f.all (·.stopOk)
    && readBe ((plainBytes f).drop 30) == (checkValue ((plainBytes f).take 30)).toNat

/-- The frame type codes (Figure 11-1). -/
def poseType : Nat := 1
def demandType : Nat := 2
def requestType : Nat := 3
def responseType : Nat := 4
def reportType : Nat := 5

/-- A frame is accepted on a port of lane k: check value, type, crane number (R23). -/
def laneAccepts (type : Nat) (k : Crane) (f : List RxByte) : Bool :=
  checkOk f && unsignedAt (plainBytes f) 0 1 == type && unsignedAt (plainBytes f) 1 1 == craneNum k

/-- A frame is accepted on the S-port: check value and type (R161). -/
def requestAccepted (f : List RxByte) : Bool := checkOk f && unsignedAt (plainBytes f) 0 1 == requestType

/-- What a received pose frame says (Figure 11-2), its numeric fields saturated (R172); `flags` is byte 3 as received. -/
structure PoseIn where
  seq     : Nat
  flags   : Nat
  theta   : Nat
  r       : Nat
  h       : Nat
  speed   : PerAxis Int
  load    : Nat
  wind    : Nat
  deriving DecidableEq, Repr

/-- Decoding of a pose frame (R172). -/
def poseIn (f : List Byte) : PoseIn :=
  { seq := unsignedAt f 2 1, flags := unsignedAt f 3 1, theta := unsignedAt f 4 2, r := min 1200 (unsignedAt f 6 2),
    h := min 3000 (unsignedAt f 8 2),
    speed := ⟨saturateSpeed 4000 (signedAt f 10 2), saturateSpeed 100 (signedAt f 12 1),
              saturateSpeed 200 (signedAt f 13 2)⟩,
    load := min 20000 (unsignedAt f 15 2), wind := saturateWind (unsignedAt f 17 2) }

/-- What a received demand frame says (Figure 11-4), its speeds saturated (R172). -/
structure DemandIn where
  speed      : PerAxis Int
  step       : Nat
  stepNumber : Nat
  booking    : Nat
  deriving DecidableEq, Repr

/-- Decoding of a demand frame (R172). -/
def demandIn (f : List Byte) : DemandIn :=
  { speed := ⟨saturateSpeed 4000 (signedAt f 2 2), saturateSpeed 100 (signedAt f 4 1),
              saturateSpeed 200 (signedAt f 5 2)⟩,
    step := unsignedAt f 7 1, stepNumber := unsignedAt f 8 1, booking := unsignedAt f 9 2 }

/-! ### The forwarded pose (R42) -/

/-- Some hold of crane k bears a vacate mark (R42, R59). -/
def vacateRequested (s : State) (k : Crane) : Bool :=
  allZones.any fun z => isHeldBy s k z && (s.zone z).vacate

/-- The coordinator status field, bytes 19 to 29 (Figures 2-7, 11-2). Of bytes 24 and 25 without a step number or answer, and
of the leg bits of byte 23 without a booking, and of bit 7 of byte 20, Figure 11-2 gives no value; they are sent as zero
(DEDUCED, log 44). -/
def statusField (s : State) (k : Crane) : List Byte :=
  let l := s.lane k
  let b := openLift s k
  let state := 128 * controlCode l.control + 32 * laneCode l.state + 16 * cabCode l.cab
    + 4 * windCode (s.wind k).level + vaneCode (s.vane k).state
  let marks := flagSet (clampBits l.clamps
    ++ [vacateRequested s k, (s.arb k).yieldZone.isSome, b.isSome, l.lastAnswer.isSome])
  [byte state, byte marks]
    ++ be2 ((b.map (·.id)).getD 0)
    ++ [byte ((b.map fun b => 16 * bookingCode b.state + b.leg).getD 0)]
    ++ [byte (l.lastStep.getD 0), byte ((l.lastAnswer.map fun a => answerCode a.1).getD 0)]
    ++ be2 ((l.lastAnswer.map (·.2)).getD 0)
    ++ [byte 0, byte 0]

/-- Bytes 0 to 29 of the pose forwarded on C-port k: the record's values, the debounced flags, the other received status
flags as received (`flags`), and the status field (R42). -/
def forwardedPose (s : State) (k : Crane) (p : Pose) (flags : Nat) : List Byte :=
  [byte poseType, byte (craneNum k), byte p.seq,
   byte (flagSet [p.hookParked.value, p.brakeReleased.value, p.driveFault.value] + 8 * (flags / 8))]
    ++ be2 p.theta ++ be2 p.r ++ be2 p.h
    ++ be2 (twos 16 p.speed.slew) ++ [byte (twos 8 p.speed.trolley)] ++ be2 (twos 16 p.speed.hoist)
    ++ be2 p.load ++ be2 p.wind ++ statusField s k

/-! ### Outgoing demands (R34, R40, R41) -/

/-- The reason flags that hold for crane k (R40, Figure 2-6). -/
def reasonFlags (s : State) (k : Crane) : ReasonFlags :=
  { mode := s.mode == .config, halt := (s.lane k).control == .halted, lane := (s.lane k).state != .live,
    vane := (s.vane k).state == .vaning }

/-- Bytes 0 to 29 of an outgoing demand frame (Figure 11-5). The figure gives bits 5 to 7 of byte 12 and bits 4 to 7 of byte 13
no value; they are sent as zero (DEDUCED, log 44). -/
def outDemand (k : Crane) (speed : PerAxis Int) (clamps : PerAxis Bool) (reasons : ReasonFlags)
    (substitute brake : Bool) (seq : Nat) : List Byte :=
  [byte demandType, byte (craneNum k)]
    ++ be2 (twos 16 speed.slew) ++ [byte (twos 8 speed.trolley)] ++ be2 (twos 16 speed.hoist)
    ++ List.replicate 4 (byte 0)
    ++ [byte seq, byte (flagSet (clampBits clamps ++ [substitute, brake])),
        byte (flagSet [reasons.mode, reasons.halt, reasons.lane, reasons.vane])]
    ++ List.replicate 16 (byte 0)

/-- One outgoing demand frame leaves on D-port k with the next outgoing sequence number, which then advances; its clamp
flags become the lane's last clamp flags (R41). -/
def sendDemand (k : Crane) (speed : PerAxis Int) (clamps : PerAxis Bool) (reasons : ReasonFlags)
    (substitute : Bool) (s : State) : State :=
  let l := s.lane k
  let brake := (s.vane k).state == .vaning
  (send (.d k) (outDemand k speed clamps reasons substitute brake l.outSeq) s).setLane k
    { l with outSeq := (l.outSeq + 1) % 256, clamps := clamps }

/-! ### Reports (Figure 11-8) -/

/-- A stamp as six bytes: seconds and millisecond. -/
def stampBytes (t : Stamp) : List Byte := be4 t.sec ++ be2 t.ms

/-- Bytes 0 to 29 of a report frame (Figure 11-8). -/
def reportBytes (e : Report) : List Byte :=
  [byte reportType, byte (reportCode e.kind), byte ((e.crane.map craneNum).getD 0),
   byte ((e.zone.map zoneNum).getD 0)]
    ++ be2 (e.booking.getD 0) ++ be4 e.value ++ [byte e.count]
    ++ stampBytes e.first ++ stampBytes e.last ++ List.replicate 7 (byte 0)

/-! ### Responses (R161, R162, Figure 11-7) -/

/-- What a request is answered: DONE with data, PENDING, or REFUSED with a reason and its detail (R162). -/
inductive Reply where
  | done (data : List Byte)
  | pending
  | refused (why : Reason) (check : Nat) (crane : Option Crane) (zone : Option Zone)
  deriving DecidableEq, Repr

/-- REFUSED without a detail. -/
def Reply.no (why : Reason) : Reply := .refused why 0 none none

/-- DONE without data. -/
def Reply.ok : Reply := .done []

/-- Bytes 3 to 7 of a response. -/
def replyHead : Reply → List Byte
  | .done _ => [byte 0, byte 0, byte 0, byte 0, byte 0]
  | .pending => [byte 1, byte 0, byte 0, byte 0, byte 0]
  | .refused why check k z =>
    [byte 2, byte (reasonCode why), byte check, byte ((k.map craneNum).getD 0), byte ((z.map zoneNum).getD 0)]

/-- The data of a reply. -/
def Reply.data : Reply → List Byte
  | .done d => d
  | .pending => []
  | .refused _ _ _ _ => []

/-- A list of bytes filled with zeros to a length. -/
def padTo (n : Nat) (bs : List Byte) : List Byte := (bs ++ List.replicate n (byte 0)).take n

/-- Bytes 0 to 29 of the one response frame of a request that is not a read. -/
def responseBytes (kind tag : Byte) (r : Reply) : List Byte :=
  [byte responseType, kind, tag] ++ replyHead r ++ padTo 22 r.data

/-- How many frames the response to a read takes: at least one (R174). -/
def trainLength (data : List Byte) : Nat := max 1 (ceilDiv data.length 21)

/-- Bytes 0 to 29 of frame `i` of the response to a read (R174). Bits 5 and 6 of byte 8, which R174 does not name, are sent as
zero (DEDUCED, log 44). -/
def readBytes (kind tag : Byte) (r : Reply) (i : Nat) : List Byte :=
  let n := trainLength r.data
  [byte responseType, kind, tag] ++ replyHead r
    ++ [byte (i % 32 + if i + 1 = n then 128 else 0)] ++ padTo 21 (r.data.drop (21 * i))

/-- A request is answered: one response frame (R161). -/
def answer (q : Req) (tag : Byte) (rs : Reply × State) : State :=
  send .s (responseBytes (byte (reqCode q)) tag rs.1) rs.2

/-- A read request is answered: a train of response frames (R174). -/
def answerRead (q : Req) (tag : Byte) (rs : Reply × State) : State :=
  (List.range (trainLength rs.1.data)).foldl
    (fun s i => send .s (readBytes (byte (reqCode q)) tag rs.1 i) s) rs.2

/-! ### Targets (R161) -/

/-- The target is the site, or none. -/
def targetIsSite (t : Target) : Bool := t.sort == 0

/-- The crane a target names: the sort is crane and the number lies within 1 to 8. -/
def targetCrane (t : Target) : Option Crane := if t.sort = 1 then craneOf? t.value.toNat else none

/-- The zone a target names. -/
def targetZone (t : Target) : Option Zone := if t.sort = 2 then zoneOf? t.value.toNat else none

/-- The booking id a target names. -/
def targetBooking (t : Target) : Option Nat := if t.sort = 3 then some t.value.toNat else none

/-- The target is all cranes. -/
def targetIsAll (t : Target) : Bool := t.sort == 4

end Sys2Proof.Machine
end

