-- ==== Sys2Proof/Machine/Booking.lean ====
section
/-! DEFINITION. The Booking Table (spec/08): reports (R134), leg entry and letting go (R140, R141), the outcome (R148,
R149), suspension and resumption (R145 to R147), the booking steps (R137 to R144), the window events (R135), and the
requests BOOK LIFT, CANCEL BOOKING and RETIRE BOOKING (R133, R144, R150). -/

namespace Sys2Proof.Machine

/-! ### Records -/

/-- The record with an id (R132). -/
def findBooking (s : State) (id : Nat) : Option Booking := s.bookings.find? fun b => b.id == id

/-- The record with an id is changed. -/
def updateBooking (id : Nat) (f : Booking → Booking) (s : State) : State :=
  s.setBookings (s.bookings.map fun b => if b.id == id then f b else b)

/-- DONE, LAPSED and CANCELLED (R132). -/
def BookingState.terminal : BookingState → Bool
  | .done => true
  | .lapsed => true
  | .cancelled => true
  | .logged => false
  | .opened => false
  | .active => false
  | .suspended => false

/-- An outcome of which every field is absent (R133). -/
def LiftOutcome.absent : LiftOutcome := ⟨none, none, none, none, none, none⟩

/-- The value of BOOKING_STATE: byte 6 the state or OVERTIME, byte 7 the leg index, byte 8 the reason when SUSPENDED
(R134, R174). Byte 9, which R174 does not name here, is zero (DEDUCED, log 40). -/
def bookingValue (b : Booking) (stateCode : Nat) : Nat :=
  let why := if b.state = .suspended then (b.reason.map suspendCode).getD 0 else 0
  ((stateCode * 256 + b.leg) * 256 + why) * 256

/-- BOOKING_STATE for the record with an id, as it stands (R134). -/
def reportBooking (id : Nat) (s : State) : State :=
  match findBooking s id with
  | none => s
  | some b =>
    offer { kind := .bookingState, crane := some b.crane, booking := some b.id,
            value := bookingValue b (bookingCode b.state) } s

/-- BOOKING_STATE with the value OVERTIME (R134, R135). -/
def reportOvertime (id : Nat) (s : State) : State :=
  match findBooking s id with
  | none => s
  | some b =>
    offer { kind := .bookingState, crane := some b.crane, booking := some b.id,
            value := bookingValue b overtimeCode } s

/-- The end time is the present site time (R148 step 4). -/
def ended (s : State) (b : Booking) : Booking :=
  { b with outcome := { b.outcome with endTime := some s.clock.siteTime } }

/-! ### Legs and zones (R140, R141) -/

/-- One zone of crane k's BOOKING holds is let go, unless it is one of `keep` (R141). -/
def letGoZone (k : Crane) (f : List Occ) (keep : List Zone) (s : State) (z : Zone) : State :=
  if isHeldBy s k z ∧ (s.zone z).kind = some .booking ∧ ¬ z ∈ keep then
    if (useIn f z).isSome then judgeLimit z (setKind z .motion s) else release z s
  else s

/-- The BOOKING holds of crane k other than zones of `keep` are let go, in ascending zone number (R141). -/
def letGo (k : Crane) (keep : List Zone) (s : State) : State :=
  allZones.foldl (letGoZone k (footprint s k) keep) s

/-- One zone of the leg at leg entry (R140 step 1). -/
def takeLegZone (k : Crane) (s : State) (z : Zone) : State :=
  match (s.zone z).st with
  | .free => if mayUse s k z .load then acquire k z .booking s else s
  | .held j h _ => if j = k ∧ (h = .motion ∨ h = .frozen) then setKind z .booking s else s
  | .swept _ _ => s

/-- Leg entry of crane k's ACTIVE booking (R140): holds, reservation, classes. -/
def legEntry (k : Crane) (s : State) : State :=
  rejudgeEntries k (placeReservation k ((currentLeg s k).foldl (takeLegZone k) s))

/-- What a booking that stops being ACTIVE gives up: its BOOKING holds, its reservation, the BOOKED class of its queue
entries (R143 to R146). The record has already left ACTIVE. -/
def giveUp (k : Crane) (s : State) : State := rejudgeEntries k (withdrawReservation k (letGo k [] s))

/-! ### The outcome (R148, R149) -/

/-- More than 10 % above the declaration (R149). -/
def aboveDeclared (load declared : Nat) : Bool := 11 * declared < 10 * load

/-- The load is judged against the declaration: recorded and reported the first time it is above (R149). -/
def judgeLoad (id : Nat) (load : Nat) (s : State) : State :=
  match findBooking s id with
  | none => s
  | some b =>
    if aboveDeclared load b.load ∧ b.outcome.loadAbove = none then
      offer { kind := .loadAboveDeclared, crane := some b.crane, booking := some id, value := load }
        (updateBooking id (fun b => { b with outcome := { b.outcome with loadAbove := some load } }) s)
    else s

/-- A pose of crane k handed to the Booking Table while its booking is ACTIVE (R148 step 1). -/
def noteLoad (k : Crane) (s : State) : State :=
  match activeBooking s k, s.pose k with
  | some b, some p =>
    judgeLoad b.id p.load
      (updateBooking b.id (fun b => { b with outcome :=
        { b.outcome with maxLoad := some (max (b.outcome.maxLoad.getD 0) p.load) } }) s)
  | _, _ => s

/-- INTRUSIONS of crane k is counted (R47), and with it the intrusions field of its ACTIVE booking (R148 step 2). -/
def countIntrusion (k : Crane) (s : State) : State :=
  let s1 := count k .intrusions 1 s
  match activeBooking s1 k with
  | none => s1
  | some b =>
    updateBooking b.id (fun b => { b with outcome :=
      { b.outcome with intrusions := some (min 65535 (b.outcome.intrusions.getD 0 + 1)) } }) s1

/-- CHART_OVERRUN was reported for crane k (R148 step 3): the chart overruns field rises while the booking is ACTIVE and
carries a load. -/
def noteChartOverrun (k : Crane) (s : State) : State :=
  match activeBooking s k, s.pose k, s.profile k with
  | some b, some p, some prof =>
    if prof.emptyHook ≤ p.load then
      updateBooking b.id (fun b => { b with outcome :=
        { b.outcome with chartOverruns := some (min 255 (b.outcome.chartOverruns.getD 0 + 1)) } }) s
    else s
  | _, _, _ => s

/-! ### Suspension and resumption (R145 to R147) -/

/-- A cause of Figure 8-5 meets crane k: its ACTIVE booking becomes SUSPENDED (R145), or LAPSED when its OVERTIME flag is
set (R146). -/
def suspend (k : Crane) (why : SuspendReason) (s : State) : State :=
  match activeBooking s k with
  | none => s
  | some b =>
    let mark (b : Booking) : Booking := { b with reason := some why, suspensions := min 255 (b.suspensions + 1) }
    let s1 :=
      if b.overtime then updateBooking b.id (fun b => ended s { mark b with state := .lapsed }) s
      else updateBooking b.id (fun b => { mark b with state := .suspended }) s
    reportBooking b.id (giveUp k s1)

/-- The conditions of resumption (R147). -/
def mayResume (s : State) (k : Crane) : Bool :=
  (s.wind k).level != .stow && (s.vane k).state == .none && (s.lane k).state == .live
    && (s.lane k).control == .run

/-- A SUSPENDED booking of crane k is judged for resumption (R147). -/
def judgeResume (k : Crane) (s : State) : State :=
  match suspendedBooking s k with
  | none => s
  | some b =>
    if mayResume s k then
      reportBooking b.id (legEntry k (updateBooking b.id (fun b => { b with state := .active }) s))
    else s

/-- A halting event of crane k: a crane already HALTED is not changed; otherwise its ACTIVE booking is suspended with the
reason HALT (R35, R145). -/
def haltState (k : Crane) (s : State) : State :=
  if (s.lane k).control = .halted then s else suspend k .halt (setControl k .halted s)

/-- The control state of crane k becomes RUN, which may let a suspended booking resume (R35, R36, R147). -/
def runState (k : Crane) (s : State) : State :=
  if (s.lane k).control = .run then s else judgeResume k (setControl k .run s)

/-! ### Booking steps (R137 to R144) -/

/-- Why BEGIN is not accepted, by the tests of R138 in order; `none` when it is accepted. -/
def beginRefusal (k : Crane) (b : Booking) (s : State) : Option Answer :=
  if (openLift s k).isSome then some .badStep
  else if b.state ≠ .opened then some .notOpen
  else if (s.wind k).level = .hold ∨ (s.wind k).level = .stow ∨ (s.vane k).state ≠ .none then some .wind
  else if s.mode = .config ∨ (s.lane k).control = .halted ∨ (s.lane k).state ≠ .live
      ∨ ((s.pose k).map (·.driveFault.value)).getD false = true then some .notRunning
  else if b.route.any (fun z => !mayUse s k z .load) then some .routeBarred
  else none

/-- BEGIN is accepted (R139). -/
def beginLift (k : Crane) (b : Booking) (s : State) : State :=
  let load := ((s.pose k).map (·.load)).getD 0
  let s1 := updateBooking b.id (fun b => { b with state := .active, leg := 1, outcome :=
    { b.outcome with beginTime := some s.clock.siteTime, maxLoad := some load, intrusions := some 0,
                     chartOverruns := some 0 } }) s
  reportBooking b.id (legEntry k (judgeLoad b.id load s1))

/-- LEG_DONE from leg i to leg i + 1 (R142). -/
def advanceLeg (k : Crane) (b : Booking) (s : State) : State :=
  let s1 := updateBooking b.id (fun b => { b with leg := b.leg + 1 }) s
  let new := currentLeg s1 k
  let s2 := letGo k new s1
  let s3 := match (s2.arb k).reservation with
    | none => s2
    | some z => if new.head? = some z then s2 else withdrawReservation k s2
  legEntry k s3

/-- END of an ACTIVE booking (R143). -/
def endLift (k : Crane) (b : Booking) (s : State) : State :=
  reportBooking b.id (giveUp k (updateBooking b.id (fun b => ended s { b with state := .done }) s))

/-- A non-terminal booking becomes CANCELLED (R144). -/
def cancelLift (b : Booking) (s : State) : State :=
  let s1 := updateBooking b.id (fun c => if b.state = .active ∨ b.state = .suspended
    then ended s { c with state := .cancelled } else { c with state := .cancelled }) s
  reportBooking b.id (if b.state = .active then giveUp b.crane s1 else s1)

/-- BEGIN (R138, R139). -/
def stepBegin (k : Crane) (b : Booking) (s : State) : Answer × State :=
  match beginRefusal k b s with
  | some a => (a, s)
  | none => (.accepted, beginLift k b s)

/-- LEG_DONE (R142). -/
def stepLegDone (k : Crane) (b : Booking) (s : State) : Answer × State :=
  match b.state with
  | .active => if b.leg < b.route.length then (.accepted, advanceLeg k b s) else (.badStep, s)
  | .suspended => (.notRunning, s)
  | .logged => (.badStep, s)
  | .opened => (.badStep, s)
  | .done => (.badStep, s)
  | .lapsed => (.badStep, s)
  | .cancelled => (.badStep, s)

/-- END (R143). -/
def stepEnd (k : Crane) (b : Booking) (s : State) : Answer × State :=
  match b.state with
  | .active => (.accepted, endLift k b s)
  | .suspended => (.notRunning, s)
  | .logged => (.badStep, s)
  | .opened => (.badStep, s)
  | .done => (.badStep, s)
  | .lapsed => (.badStep, s)
  | .cancelled => (.badStep, s)

/-- ABANDON (R144). -/
def stepAbandon (b : Booking) (s : State) : Answer × State :=
  if b.state.terminal then (.badStep, s) else (.accepted, cancelLift b s)

/-- A step handed to the Booking Table by lane k (R137): 1 BEGIN, 2 LEG_DONE, 3 END, 4 ABANDON (Figure 11-3). The lane
itself answers BAD_STEP for any other step value and for booking id 0 (R39). -/
def bookingStep (k : Crane) (step id : Nat) (s : State) : Answer × State :=
  if id = 0 ∨ step = 0 ∨ 4 < step then (.badStep, s)
  else match findBooking s id with
    | none => (.badId, s)
    | some b =>
      if b.crane ≠ k then (.badId, s)
      else if step = 1 then stepBegin k b s
      else if step = 2 then stepLegDone k b s
      else if step = 3 then stepEnd k b s
      else stepAbandon b s

/-! ### Window events (R135) -/

/-- The open event of a LOGGED booking (R135). -/
def openWindow (id : Nat) (s : State) : State :=
  reportBooking id (updateBooking id (fun b => { b with state := .opened }) s)

/-- The close event of a booking (R135). -/
def closeWindow (b : Booking) (s : State) : State :=
  match b.state with
  | .opened => reportBooking b.id (updateBooking b.id (fun b => { b with state := .lapsed }) s)
  | .suspended => reportBooking b.id (updateBooking b.id (fun b => ended s { b with state := .lapsed }) s)
  | .active =>
    if b.overtime then s
    else reportOvertime b.id (updateBooking b.id (fun b => { b with overtime := true }) s)
  | .logged => s
  | .done => s
  | .lapsed => s
  | .cancelled => s

/-- The close event is pending: OPEN, SUSPENDED, or ACTIVE with OVERTIME clear (R135). -/
def closePending (b : Booking) : Bool :=
  match b.state with
  | .opened => true
  | .suspended => true
  | .active => !b.overtime
  | .logged => false
  | .done => false
  | .lapsed => false
  | .cancelled => false

/-- WINDOW_OPEN_EVENT (R135): site time has reached the open instant of a LOGGED booking (log 3). -/
def execWindowOpenEvent (id : Nat) (s : State) : Out :=
  .next (match findBooking s id with
    | none => s
    | some b => if b.state = .logged then openWindow id (s.waitSite b.opens) else s)

/-- WINDOW_CLOSE_EVENT (R135): site time has reached the close instant of a booking whose close event is pending
(log 3). -/
def execWindowCloseEvent (id : Nat) (s : State) : Out :=
  .next (match findBooking s id with
    | none => s
    | some b => if closePending b then closeWindow b (s.waitSite b.closes) else s)

/-! ### BOOK LIFT (R133) -/

/-- The route a plan carries: the entries its count covers (R173). -/
def planEntries (p : LiftPlan) : List Nat := p.route.take p.routeCount

/-- Windows overlap when each opens before the other closes (R133). -/
def windowsOverlap (b : Booking) (p : LiftPlan) : Bool := b.opens < p.closes && p.opens < b.closes

/-- The admission tests 9 and 10 of Figure 8-2, against the crane's profile and chart. -/
def planPoints (prof : Profile) (c : Chart) (p : LiftPlan) : Option Reason :=
  let inside (r : Nat) : Bool := prof.rmin ≤ r && r ≤ prof.rmax
  if !(p.pickSector ≤ 255 && p.setSector ≤ 255 && inside p.pickRadius && inside p.setRadius && p.load ≤ 20000) then
    some .range
  else if ratedLoad 0 c p.pickRadius < p.load ∨ ratedLoad 0 c p.setRadius < p.load then some .notPermitted
  else none

/-- The route brings as many entries as its count says, each a zone number (R133 test 6). -/
def routeReadable (p : LiftPlan) : Bool :=
  (planEntries p).length == p.routeCount && (planEntries p).all fun n => (zoneOf? n).isSome

/-- The admission tests of BOOK LIFT in the order of Figure 8-2: the reason of the first that fails, or the record. -/
def admission (s : State) (id : Nat) (p : LiftPlan) : Except Reason Booking :=
  if 32 ≤ s.bookings.length then .error .tableFull
  else if id < 1 ∨ 65535 < id then .error .range
  else if (findBooking s id).isSome then .error .duplicate
  else match craneOf? p.crane with
  | none => .error .badTarget
  | some k =>
    match s.profile k, s.chart k with
    | some prof, some c =>
      if !prof.present then .error .badTarget
      else if !(p.opens < p.closes && s.clock.siteTime < p.closes) then .error .range
      else if p.routeCount < 1 ∨ 6 < p.routeCount ∨ !routeReadable p then .error .range
      else
        let route := (planEntries p).filterMap zoneOf?
        if route.any (fun z => !zonePresent s z) then .error .badTarget
        else if !(decide route.Nodup) then .error .duplicate
        else match planPoints prof c p with
        | some why => .error why
        | none =>
          if s.bookings.any (fun b => b.crane == k && !b.state.terminal && windowsOverlap b p) then .error .conflict
          else .ok
            { id := id, crane := k, opens := p.opens, closes := p.closes, load := p.load,
              pickSector := p.pickSector, pickRadius := p.pickRadius, setSector := p.setSector,
              setRadius := p.setRadius, route := route,
              state := if p.opens ≤ s.clock.siteTime then .opened else .logged, leg := 0, overtime := false,
              reason := none, suspensions := 0, outcome := .absent }
    | _, _ => .error .badTarget

/-- BOOK LIFT judged (R133). -/
def bookLift (tgt : Target) (p : LiftPlan) (s : State) : Reply × State :=
  match targetBooking tgt with
  | none => (.no .badTarget, s)
  | some id =>
    match admission s id p with
    | .error why => (.no why, s)
    | .ok b => (.ok, reportBooking id (s.setBookings (s.bookings ++ [b])))

/-- BOOK_LIFT (R133). -/
def execBookLift (tag : Byte) (tgt : Target) (p : LiftPlan) (s : State) : Out :=
  .next (answer .bookLift tag (bookLift tgt p s))

/-- CANCEL BOOKING judged (R144). -/
def cancelBooking (tgt : Target) (s : State) : Reply × State :=
  match (targetBooking tgt).bind (findBooking s) with
  | none => (.no .badTarget, s)
  | some b => if b.state.terminal then (.no .badState, s) else (.ok, cancelLift b s)

/-- CANCEL_BOOKING (R144). -/
def execCancelBooking (tag : Byte) (tgt : Target) (s : State) : Out :=
  .next (answer .cancelBooking tag (cancelBooking tgt s))

/-- RETIRE BOOKING judged (R150). -/
def retireBooking (tgt : Target) (s : State) : Reply × State :=
  match (targetBooking tgt).bind (findBooking s) with
  | none => (.no .badTarget, s)
  | some b =>
    if b.state.terminal then (.ok, s.setBookings (s.bookings.filter fun c => !(c.id == b.id)))
    else (.no .badState, s)

/-- RETIRE_BOOKING (R150). -/
def execRetireBooking (tag : Byte) (tgt : Target) (s : State) : Out :=
  .next (answer .retireBooking tag (retireBooking tgt s))

end Sys2Proof.Machine
end

