-- ==== Sys2Proof/Machine/Arbiter.lean ====
section
/-! DEFINITION. The Zone Arbiter (spec/03): motion waits and wait cycles (R54, R60 to R63), the activity timer (R57), the
judgement of a pose (R46 to R50, R78), freezing and widening (R64, R65), CRANE RESTART (R66), FORCE RELEASE ZONE (R67)
and the hold-limit expiry (R58). -/

namespace Sys2Proof.Machine

/-! ### Wait cycles (R60 to R62) -/

/-- The crane that crane a waits on: the holder of the zone of a's motion wait (spec/03, section 3.6). -/
def waitsOn (s : State) (a : Crane) : Option Crane :=
  match (s.arb a).motionWait with
  | none => none
  | some w => (s.zone w.zone).holder

/-- The wait steps from `c` on: the cranes met before X, when X is reached within `fuel` steps (R60). -/
def walkFrom (s : State) (x : Crane) : Nat → Crane → Option (List Crane)
  | 0, c => if c = x then some [] else none
  | fuel + 1, c =>
    if c = x then some []
    else match waitsOn s c with
      | none => none
      | some d => (walkFrom s x fuel d).map (c :: ·)

/-- The other members of the cycle that a wait of X on a zone held by Y would close: Y = c1, …, cm (R60). -/
def cycleThrough (s : State) (x y : Crane) : Option (List Crane) := walkFrom s x 8 y

/-- The victim: the first crane on the walk X, c1, …, cm without an ACTIVE booking; X when each has one (R60). -/
def victim (s : State) (x : Crane) (cs : List Crane) : Crane :=
  ((x :: cs).find? fun c => (activeBooking s c).isNone).getD x

/-- Some member of the cycle has its motion wait in the queue of z. -/
def memberWaits (s : State) (members : List Crane) (z : Zone) : Bool := members.any fun c => waitsAt s c z

/-- The yield indication of crane v is set with zone z and YIELD is reported (R61, R62). -/
def setYield (v : Crane) (z : Zone) (s : State) : State :=
  offer { kind := .yieldSet, crane := some v, zone := some z } (s.setArb v { s.arb v with yieldZone := some z })

/-- The yield indication of crane k is cleared (R63). -/
def clearYield (k : Crane) (s : State) : State := s.setArb k { s.arb k with yieldZone := none }

/-- Each hold of v in whose queue a member of the cycle waits is vacate-marked with the cause CYCLE, in ascending zone
number; `also` is the zone of a request that counts though it is not enqueued yet (R61, R62; log 16;
the order is DESIGN CHOICE, log 45). -/
def markCycle (v : Crane) (members : List Crane) (also : Option Zone) (s : State) : State :=
  allZones.foldl (fun t z =>
    if isHeldBy t v z && (memberWaits s members z || also == some z) then markVacate z .cycle t else t) s

/-- The victim is the requester X (R61). -/
def yieldRequester (x : Crane) (z : Zone) (cs : List Crane) (s : State) : State :=
  markCycle x (x :: cs) none (setYield x z (withdrawWait x s))

/-- The victim is another crane V (R62): its wait is withdrawn, and its holds in the cycle are marked; X's wait on z
counts when V holds z. -/
def yieldOther (x v : Crane) (z : Zone) (cs : List Crane) (s : State) : State :=
  match (s.arb v).motionWait with
  | none => s
  | some w => markCycle v (x :: cs) (some z) (setYield v w.zone (withdrawWait v s))

/-- Steps 2 and 3 of R54: crane k's motion wait comes to stand on z for use u, and its yield indication is cleared
(R63). -/
def enqueueWait (k : Crane) (z : Zone) (u : Use) (s : State) : State :=
  let s1 := if waitsAt s k z then s else withdrawWait k s
  clearYield k (joinQueue k z (s1.setArb k { s1.arb k with motionWait := some ⟨z, u⟩ }))

/-- A motion wait of crane k on a waitable zone z for use u is requested (R54, R60). -/
def requestWait (k : Crane) (z : Zone) (u : Use) (s : State) : State :=
  match (s.zone z).heldBy with
  | none => s
  | some y =>
    match cycleThrough s k y with
    | none => enqueueWait k z u s
    | some cs =>
      let v := victim s k cs
      if v = k then yieldRequester k z cs s else enqueueWait k z u (yieldOther k v z cs s)

/-- An evaluated demand without a waitable boundary: crane k's motion wait is withdrawn and its yield indication cleared
(R54, R63, R99). -/
def dropWait (k : Crane) (s : State) : State := clearYield k (withdrawWait k s)

/-! ### Activity timer (R57) -/

/-- The first PRIMARY axis with a non-zero speed, in the order slew, trolley, hoist (R57). -/
def reloadAxis (a : PerAxis Activity) (v : PerAxis Int) : Option Axis :=
  if a.slew = .primary ∧ v.slew ≠ 0 then some .slew
  else if a.trolley = .primary ∧ v.trolley ≠ 0 then some .trolley
  else if a.hoist = .primary ∧ v.hoist ≠ 0 then some .hoist
  else none

/-- An outgoing frame built from an accepted demand reloads crane k's activity timer when a PRIMARY axis moves (R57). -/
def reloadTimer (k : Crane) (v : PerAxis Int) (s : State) : State :=
  match s.profile k with
  | none => s
  | some p =>
    match reloadAxis p.activity v with
    | none => s
    | some a => s.setArb k { s.arb k with lastReload := s.now, reloadCause := some a }

/-- The activity timer of crane k is set to the present instant with the cause none (R57). -/
def restartTimer (k : Crane) (s : State) : State :=
  s.setArb k { s.arb k with lastReload := s.now, reloadCause := none }

/-! ### The footprint step (R47, R48, R50, R78) -/

/-- A FREE zone the crane may use is found in its footprint on a pose that is not a settling pose (R47). -/
def intrude (k : Crane) (z : Zone) (s : State) : State :=
  trigger .intrusion (some k) (some z)
    (offer { kind := .intrusion, crane := some k, zone := some z }
      (countIntrusion k (acquire k z (kindFor s k z) s)))

/-- A FREE zone the crane may not use is found in its footprint on a pose that is not a settling pose (R47). -/
def breach (k : Crane) (z : Zone) (u : Use) (s : State) : State :=
  trigger .breach (some k) (some z)
    (offer { kind := .breach, crane := some k, zone := some z, value := useCode u }
      (countIntrusion k (acquire k z .exitOnly s)))

/-- A zone taken EXIT_ONLY without a count, reported as EXIT_ONLY (R18, R50). -/
def takeExitOnly (k : Crane) (z : Zone) (u : Use) (s : State) : State :=
  offer { kind := .exitOnly, crane := some k, zone := some z, value := useCode u } (acquire k z .exitOnly s)

/-- A new overlap of crane k on zone z with crane j: counted, reported, offered as a trigger (R48). The halts follow the
release step. -/
def overlap (k : Crane) (z : Zone) (j : Crane) (s : State) : State :=
  trigger .overlap (some k) (some z)
    (offer { kind := .overlap, crane := some k, zone := some z, value := craneNum j } (count k .overlaps 1 s))

/-- One zone at the footprint step (R47, R50): `f` is the footprint, `old` the overlap set before this pose. -/
def footprintZone (k : Crane) (f : List Occ) (settling : Bool) (old : List Zone) (s : State) (z : Zone) : State :=
  match useIn f z with
  | none => s
  | some u =>
    match (s.zone z).holder with
    | some j => if j = k ∨ z ∈ old then s else overlap k z j s
    | none =>
      if mayUse s k z u then (if settling then acquire k z (kindFor s k z) s else intrude k z s)
      else (if settling then takeExitOnly k z u s else breach k z u s)

/-- A zone held by k whose use at the pose is not in k's entitlement becomes EXIT_ONLY, with BREACH (R78). -/
def entitlementZone (k : Crane) (f : List Occ) (s : State) (z : Zone) : State :=
  match useIn f z with
  | none => s
  | some u =>
    if isHeldBy s k z ∧ (s.zone z).kind ≠ some .exitOnly ∧ mayUse s k z u = false then
      trigger .breach (some k) (some z)
        (offer { kind := .breach, crane := some k, zone := some z, value := useCode u } (setKind z .exitOnly s))
    else s

/-- The zones of a footprint that another crane holds (R48). -/
def overlapZones (s : State) (k : Crane) (f : List Occ) : List Zone :=
  allZones.filter fun z => (useIn f z).isSome
    && (match (s.zone z).holder with | none => false | some j => j != k)

/-- The footprint step (R47, R48, R50, R78). -/
def footprintStep (k : Crane) (f : List Occ) (settling : Bool) (s : State) : State :=
  let now := overlapZones s k f
  let s1 := allZones.foldl (footprintZone k f settling (s.arb k).overlaps) s
  let s2 := s1.setArb k { s1.arb k with overlaps := now }
  allZones.foldl (entitlementZone k f) s2

/-! ### The release step (R49) -/

/-- A hold becomes MOTION and is judged at once against the hold limit (R49, R58). -/
def toMotion (z : Zone) (s : State) : State := judgeLimit z (setKind z .motion s)

/-- One zone at the release step (R49, Figure 3-5). -/
def releaseZone (k : Crane) (f reach : List Occ) (brake : Bool) (s : State) (z : Zone) : State :=
  let inF := (useIn f z).isSome
  let inR := (useIn reach z).isSome
  let marked := (s.zone z).vacate
  match (s.zone z).st with
  | .free => s
  | .swept _ _ => s
  | .held j h _ =>
    if j ≠ k then s
    else match h with
      | .exitOnly => if inF then s else release z s
      | .booking => if marked && !inF then release z s else s
      | .motion => if marked then (if inF then s else release z s) else (if inR then s else release z s)
      | .frozen =>
        if brake then s
        else if marked then (if inF then toMotion z s else release z s)
        else (if inR then toMotion z s else release z s)

/-- The release step of a pose of crane k (R49, R66). -/
def releaseStep (k : Crane) (f reach : List Occ) (brake : Bool) (s : State) : State :=
  allZones.foldl (releaseZone k f reach brake) s

/-- The debounced SLEW_BRAKE_RELEASED of crane k's pose record; clear for an empty record (R26). -/
def brakeReleased (s : State) (k : Crane) : Bool := ((s.pose k).map (·.brakeReleased.value)).getD false

/-- The holders of the zones that overlap anew on this pose (R48). -/
def newOverlapHolders (s : State) (k : Crane) (f : List Occ) : List Crane :=
  allCranes.filter fun j => j != k
    && (overlapZones s k f).any fun z => !(s.arb k).overlaps.contains z && (s.zone z).holder == some j

/-- The Zone Arbiter judges a pose of crane k (R46): footprint step, release step, then the halts of new overlaps, crane
k first and the holders in ascending crane number (R48). -/
def judgePose (k : Crane) (s : State) : State :=
  let f := footprint s k
  let others := newOverlapHolders s k f
  let s1 := footprintStep k f (s.arb k).settling s
  let s2 := releaseStep k f (reachSet s1 k) (brakeReleased s1 k) s1
  let s3 := s2.setArb k { s2.arb k with settling := false }
  if others = [] then s3 else others.foldl (fun t j => haltState j t) (haltState k s3)

/-! ### Stale lanes and restarts (R64 to R66) -/

/-- One hold of crane k is frozen: MOTION and BOOKING become FROZEN (R64, R66). -/
def freezeZone (k : Crane) (s : State) (z : Zone) : State :=
  if isHeldBy s k z ∧ ((s.zone z).kind = some .motion ∨ (s.zone z).kind = some .booking) then setKind z .frozen s
  else s

/-- Freezing of crane k's holds (R64). -/
def freeze (k : Crane) (s : State) : State := withdrawWait k (allZones.foldl (freezeZone k) s)

/-- One zone of the widened set (R65). -/
def widenZone (k : Crane) (w : List Occ) (s : State) (z : Zone) : State :=
  match useIn w z with
  | none => s
  | some u =>
    match (s.zone z).holder with
    | none => if mayUse s k z u then acquire k z .frozen s else s
    | some j =>
      if j = k then s
      else offer { kind := .staleConflict, crane := some k, zone := some z, value := craneNum j } s

/-- Widening of crane k's holds (R65). R65 gives no order; the zones are taken in ascending zone number (DESIGN CHOICE,
log 45). -/
def widen (k : Crane) (s : State) : State := allZones.foldl (widenZone k (widenedSet s k)) s

/-- What the lane's leaving LIVE clears in the Zone Arbiter in every mode: motion wait (R56) and overlap set (R48). -/
def leaveLive (k : Crane) (s : State) : State :=
  let s1 := withdrawWait k s
  s1.setArb k { s1.arb k with overlaps := [] }

/-- One zone SWEPT for k becomes HELD by k with kind FROZEN, keeping its queue (R66). -/
def unsweepZone (k : Crane) (s : State) (z : Zone) : State :=
  match (s.zone z).st with
  | .free => s
  | .held _ _ _ => s
  | .swept j t => if j = k then s.setZone z { s.zone z with st := .held k .frozen t } else s

/-- Sweep-pending naming k becomes absent at one zone; the mark is cleared where no queue remains (R59, R66, R125). -/
def unpendZone (k : Crane) (s : State) (z : Zone) : State :=
  if (s.zone z).sweepPending = some k then clearIdleMark z (s.setZone z { s.zone z with sweepPending := none }) else s

/-- The Zone Arbiter's action at CRANE RESTART of crane k (R66): in OPERATING on holds, swept zones, pending marks, waits;
in both modes its record takes the values of Figure 3-3. -/
def restartArbiter (k : Crane) (s : State) : State :=
  let s1 :=
    if s.mode = .operating then
      withdrawReservation k (withdrawWait k
        (allZones.foldl (unpendZone k) (allZones.foldl (unsweepZone k) (allZones.foldl (freezeZone k) s))))
    else s
  s1.setArb k (.reset s1.now)

/-! ### Commands -/

/-- HOLD_LIMIT_EXPIRY (R58): the timebase has reached the limit instant of a hold that is subject to the hold limit
(log 3). -/
def execHoldLimitExpiry (z : Zone) (s : State) : Out :=
  .next (match limitInstant s z with
    | none => s
    | some t => markVacate z .holdLimit (s.waitUntil t))

/-- FORCE RELEASE ZONE judged (R67). -/
def forceReleaseZone (tgt : Target) (s : State) : Reply × State :=
  match targetZone tgt with
  | none => (.no .badTarget, s)
  | some z =>
    if !zonePresent s z then (.no .badTarget, s)
    else if s.mode = .config then (.no .badState, s)
    else if (s.zone z).heldBy.isNone then (.no .badState, s)
    else (.ok, release z s)

/-- FORCE_RELEASE_ZONE (R67). -/
def execForceReleaseZone (tag : Byte) (tgt : Target) (s : State) : Out :=
  .next (answer .forceReleaseZone tag (forceReleaseZone tgt s))

end Sys2Proof.Machine
end

