-- ==== Sys2Proof/Machine/Access.lean ====
section
/-! DEFINITION. Access Control (spec/04): re-examination and restoration of holds (R79, R80), the permission items under a
new zone table (R69), overrides and grants with their expiries (R70, R71, R73 to R75). -/

namespace Sys2Proof.Machine

/-! ### Re-examination (R79) and restoration (R80) -/

/-- A use was in crane k's entitlement to z before and is not after (R79). -/
def lostUse (before after : State) (k : Crane) (z : Zone) : Bool :=
  [Use.jib, Use.load].any fun u => mayUse before k z u && !mayUse after k z u

/-- A use was not in crane k's entitlement to z before and is after (R80). -/
def gainedUse (before after : State) (k : Crane) (z : Zone) : Bool :=
  [Use.jib, Use.load].any fun u => !mayUse before k z u && mayUse after k z u

/-- The hold of one zone is examined when its holder lost a use of it (R79, Figure 4-3). -/
def reexamineZone (before : State) (s : State) (z : Zone) : State :=
  match (s.zone z).st with
  | .free => s
  | .swept _ _ => s
  | .held k h _ =>
    if lostUse before s k z then
      match useIn (footprint s k) z with
      | none => release z s
      | some u =>
        if h = .exitOnly ∨ mayUse s k z u = true then s
        else offer { kind := .exitOnly, crane := some k, zone := some z, value := useCode u }
          (setKind z .exitOnly s)
    else s

/-- An EXIT_ONLY hold whose holder gained a use takes the kind of R44 when its use in the footprint is now entitled
(R80). -/
def restoreZone (before : State) (s : State) (z : Zone) : State :=
  match (s.zone z).st with
  | .free => s
  | .swept _ _ => s
  | .held k h _ =>
    if h = .exitOnly ∧ gainedUse before s k z = true then
      match useIn (footprint s k) z with
      | none => s
      | some u => if mayUse s k z u then judgeLimit z (setKind z (kindFor s k z) s) else s
    else s

/-- After a permission change from `before` to `s`: re-examination, then restoration, each in ascending zone number
(R79, R80). -/
def reexamine (before s : State) : State :=
  allZones.foldl (restoreZone before) (allZones.foldl (reexamineZone before) s)

/-! ### Permission items -/

/-- The override and its expiry end and the current permissions become the base permissions (R70, R71). -/
def revertPerm (z : Zone) (s : State) : State :=
  s.setPerm z { current := basePerms s z, override := false, expiry := none }

/-- The permission items of one zone under the zone table just made active, which was `old` before (R69). -/
def alignPerm (old : Option ZoneTable) (s : State) (z : Zone) : State :=
  let was : Bool := match old with | none => false | some t => t[z].present
  if zonePresent s z then
    if was && (s.perm z).override then s
    else s.setPerm z { current := basePerms s z, override := false, expiry := none }
  else
    let s1 := s.setPerm z { current := noPerms, override := false, expiry := none }
    s1.setGrants (s1.access.grants.filter fun g => !(g.zone == z))

/-- The entry of the grant table for a crane and a zone (R72). -/
def findGrant (s : State) (k : Crane) (z : Zone) : Option Grant :=
  s.access.grants.find? fun g => g.crane == k && g.zone == z

/-- The grant table without the entry for a crane and a zone. -/
def withoutGrant (g : List Grant) (k : Crane) (z : Zone) : List Grant :=
  g.filter fun e => !(e.crane == k && e.zone == z)

/-! ### Expiries (R71, R75) -/

/-- The override of z expires: base permissions, PERMISSION_EXPIRED, re-examination (R71). -/
def expireOverride (z : Zone) (s : State) : State :=
  let s1 := revertPerm z s
  reexamine s (offer { kind := .permissionExpired, zone := some z, value := permCode (s1.perm z).current } s1)

/-- A grant entry expires: removed, GRANT_EXPIRED, re-examination (R75). -/
def expireGrant (g : Grant) (s : State) : State :=
  let s1 := s.setGrants (withoutGrant s.access.grants g.crane g.zone)
  reexamine s (offer { kind := .grantExpired, crane := some g.crane, zone := some g.zone, value := permCode g.uses } s1)

/-- OVERRIDE_EXPIRY (R71): site time has reached the override expiry of z (log 3). -/
def execOverrideExpiry (z : Zone) (s : State) : Out :=
  .next (match (s.perm z).expiry with
    | none => s
    | some t => expireOverride z (s.waitSite t))

/-- GRANT_EXPIRY (R75): site time has reached the expiry of the entry of crane k and zone z (log 3). -/
def execGrantExpiry (k : Crane) (z : Zone) (s : State) : Out :=
  .next (match findGrant s k z with
    | none => s
    | some g =>
      match g.expiry with
      | none => s
      | some t => expireGrant g (s.waitSite t))

/-! ### Requests -/

/-- An expiry instant at or before the present site time (R70, R73). -/
def expiryPast (s : State) : Option Nat → Bool
  | none => false
  | some t => t ≤ s.clock.siteTime

/-- SET ZONE PERMISSIONS judged (R70): mode 1 OVERRIDE, 2 REVERT. -/
def setZonePermissions (tgt : Target) (mode : Nat) (setting : PermSet) (expiry : Option Nat) (s : State) :
    Reply × State :=
  match targetZone tgt with
  | none => (.no .badTarget, s)
  | some z =>
    if !zonePresent s z then (.no .badTarget, s)
    else if mode ≠ 1 ∧ mode ≠ 2 then (.no .range, s)
    else if mode = 1 then
      if expiryPast s expiry then (.no .range, s)
      else (.ok, reexamine s (s.setPerm z { current := setting, override := true, expiry := expiry }))
    else (.ok, reexamine s (revertPerm z s))

/-- SET_ZONE_PERMISSIONS (R70). -/
def execSetZonePermissions (tag : Byte) (tgt : Target) (mode : Nat) (setting : PermSet) (expiry : Option Nat)
    (s : State) : Out :=
  .next (answer .setZonePermissions tag (setZonePermissions tgt mode setting expiry s))

/-- GRANT ACCESS judged (R73). -/
def grantAccess (tgt : Target) (zone : Nat) (uses : PermSet) (expiry : Option Nat) (s : State) : Reply × State :=
  match targetCrane tgt with
  | none => (.no .badTarget, s)
  | some k =>
    if !cranePresent s k then (.no .badTarget, s)
    else match zoneOf? zone with
    | none => (.no .badTarget, s)
    | some z =>
      if !zonePresent s z then (.no .badTarget, s)
      else if (!uses.jib && !uses.load) || expiryPast s expiry then (.no .range, s)
      else
        let e : Grant := ⟨k, z, uses, expiry⟩
        if (findGrant s k z).isSome then
          (.ok, reexamine s (s.setGrants
            (s.access.grants.map fun g => if g.crane == k && g.zone == z then e else g)))
        else if 16 ≤ s.access.grants.length then (.no .tableFull, s)
        else (.ok, reexamine s (s.setGrants (s.access.grants ++ [e])))

/-- GRANT_ACCESS (R73). -/
def execGrantAccess (tag : Byte) (tgt : Target) (zone : Nat) (uses : PermSet) (expiry : Option Nat) (s : State) : Out :=
  .next (answer .grantAccess tag (grantAccess tgt zone uses expiry s))

/-- REVOKE ACCESS judged (R74). -/
def revokeAccess (tgt : Target) (zone : Nat) (s : State) : Reply × State :=
  match targetCrane tgt, zoneOf? zone with
  | some k, some z =>
    if (findGrant s k z).isSome then
      (.ok, reexamine s (s.setGrants (withoutGrant s.access.grants k z)))
    else (.no .badTarget, s)
  | _, _ => (.no .badTarget, s)

/-- REVOKE_ACCESS (R74). -/
def execRevokeAccess (tag : Byte) (tgt : Target) (zone : Nat) (s : State) : Out :=
  .next (answer .revokeAccess tag (revokeAccess tgt zone s))

end Sys2Proof.Machine
end

