-- ==== Sys2Proof/Machine/Governor.lean ====
section
/-! DEFINITION. The Motion Governor (spec/05): zone classes (R86), slew scan (R87 to R89), trolley and hoist boundaries
(R90 to R93), barred directions (R97), governing of a demand (R84, R85, R98, R99), overrun check and chart judgement
(R96, R100, R101). -/

namespace Sys2Proof.Machine

/-! ### Classes of a zone ahead (R86) -/

/-- The three classes of Figure 5-3. -/
inductive ZoneClass where
  | passable | acquirable | unobtainable
  deriving DecidableEq, Repr

/-- The class of zone z for crane k and use u (R86). -/
def classify (s : State) (k : Crane) (z : Zone) (u : Use) : ZoneClass :=
  match (s.zone z).st with
  | .free => if mayUse s k z u then .acquirable else .unobtainable
  | .held j h _ => if j = k ∧ h ≠ .exitOnly ∧ (s.zone z).vacate = false then .passable else .unobtainable
  | .swept _ _ => .unobtainable

/-- The zone is acquired by crane k with the kind of R44 (R86). -/
def takeAhead (k : Crane) (s : State) (z : Zone) : State := acquire k z (kindFor s k z) s

/-- The zones of a set of occupancies that are in a class, each with its use, in ascending zone number. -/
def zonesInClass (s : State) (k : Crane) (f : List Occ) (c : ZoneClass) : List Occ :=
  allZones.filterMap fun z =>
    match useIn f z with
    | none => none
    | some u => if classify s k z u = c then some ⟨z, u⟩ else none

/-! ### Slew (R87 to R89) -/

/-- The far edge distance e(s) of a sector (R87). -/
def farEdge (positive : Bool) (theta sec : Nat) : Nat :=
  if positive then (256 * (sec + 1) + 65536 - theta % 65536) % 65536
  else (((theta : Int) - (256 * (sec : Int) - 1)) % 65536).toNat

/-- The distance from θ to a boundary at a sector (R89). -/
def nearEdge (positive : Bool) (theta sec : Nat) : Nat :=
  if positive then (256 * sec + 65536 - theta % 65536) % 65536
  else (((theta : Int) - (256 * (sec : Int) + 255)) % 65536).toNat

/-- A slew scan (R87, R88) from the `j`-th sector beyond the pose's own, with `left` sectors still to scan up to the
128th. With `take` the acquirable zones of sectors that pass are acquired; without, they only count as passable (R100).
It gives the boundary sector with its cause, if any, and the state. -/
def scanFrom (k : Crane) (p : Pose) (positive take : Bool) (reach : Nat) :
    Nat → Nat → State → Option (Nat × List Cause) × State
  | 0, j, s => (some (sectorStep positive (sectorOf p.theta) j, [.cap]), s)
  | left + 1, j, s =>
    let sec := sectorStep positive (sectorOf p.theta) j
    let f := footprintAt s k p sec
    let barred := zonesInClass s k f .unobtainable
    if barred ≠ [] then (some (sec, barred.map fun o => .zone o.zone o.use), s)
    else
      let s1 := if take then ((zonesInClass s k f .acquirable).map (·.zone)).foldl (takeAhead k) s else s
      if reach ≤ farEdge positive p.theta sec then (none, s1)
      else scanFrom k p positive take reach left (j + 1) s1

/-- The slew scan of crane k in a direction at speed v (R87): the boundary, its distance by R89, and the state. -/
def slewScan (k : Crane) (p : Pose) (prof : Profile) (positive take : Bool) (v : Nat) (s : State) :
    Option Boundary × State :=
  let reach := stopDist prof.dyn.slew v + prof.dyn.slew.clearance
  if reach ≤ farEdge positive p.theta (sectorOf p.theta) then (none, s)
  else
    match scanFrom k p positive take reach 128 1 s with
    | (none, s1) => (none, s1)
    | (some (sec, causes), s1) =>
      (some ⟨some ((nearEdge positive p.theta sec : Int) - prof.dyn.slew.clearance), causes⟩, s1)

/-! ### Trolley (R90, R91) -/

/-- A trolley boundary candidate (Figure 5-6): its distance d, its edge's distance from r in the direction of motion, and
its cause. -/
structure Candidate where
  d     : Int
  edge  : Int
  cause : Cause
  deriving DecidableEq, Repr

/-- The entry edge of a HOOK claim's band ahead of r, as a distance in the direction of motion (R90, R91). -/
def edgeAhead (outward : Bool) (r : Nat) (c : Claim) : Option Nat :=
  match c.cls with
  | .jib => none
  | .hook lo hi =>
    if outward then (if r < lo then some (lo - r) else none)
    else (if hi < r then some (r - hi) else none)

/-- The candidate a claim of the pose's sector gives (R90). -/
def claimCandidate (s : State) (k : Crane) (p : Pose) (prof : Profile) (outward : Bool) (c : Claim) :
    Option Candidate :=
  match edgeAhead outward p.r c with
  | none => none
  | some e =>
    let u := hookUse prof p.load
    if p.h < clearHeight s.site.zoneTable c.zone ∧ classify s k c.zone u = .unobtainable then
      some ⟨(e : Int) - prof.dyn.trolley.clearance, e, .zone c.zone u⟩
    else none

/-- The candidates that come from the chart, the profile and the wind level (R90, Figure 5-6). -/
def tableCandidates (s : State) (k : Crane) (p : Pose) (prof : Profile) (outward : Bool) : List Candidate :=
  let clr : Int := prof.dyn.trolley.clearance
  if outward then
    (match limitOf s k with
      | none => []
      | some lim => [⟨(lim : Int) - p.r - clr, (lim : Int) - p.r, .chart⟩])
      ++ [⟨(prof.rmax : Int) - p.r - clr, (prof.rmax : Int) - p.r, .rmax⟩]
  else
    [⟨(p.r : Int) - prof.rmin - clr, (p.r : Int) - prof.rmin, .rmin⟩]
      ++ (if (s.wind k).level = .stow then
            [⟨(p.r : Int) - prof.stowRadius, (p.r : Int) - prof.stowRadius, .stowRadius⟩]
          else [])

/-- The claims of the pose's sector in the active map of crane k. -/
def ownClaims (s : State) (k : Crane) (p : Pose) : List Claim :=
  match s.map k with
  | none => []
  | some m => sectorClaims m (sectorOf p.theta)

/-- The candidates of the trolley (R90). -/
def candidates (s : State) (k : Crane) (p : Pose) (prof : Profile) (outward : Bool) : List Candidate :=
  (ownClaims s k p).filterMap (claimCandidate s k p prof outward) ++ tableCandidates s k p prof outward

/-- The candidates with the smallest d (R90). -/
def nearest (cs : List Candidate) : List Candidate := cs.filter fun c => cs.all fun e => c.d ≤ e.d

/-- The zones the hook would enter before it could stop, nearer than the boundary (R91; log 17). -/
def trolleyAhead (s : State) (k : Crane) (p : Pose) (prof : Profile) (outward : Bool) (v : Nat)
    (bound : List Candidate) : List Zone :=
  allZones.filter fun z => (ownClaims s k p).any fun c =>
    c.zone == z && (match edgeAhead outward p.r c with
      | none => false
      | some e =>
        decide (p.h < clearHeight s.site.zoneTable z) && (classify s k z (hookUse prof p.load) == .acquirable)
          && decide (e ≤ stopDist prof.dyn.trolley v + prof.dyn.trolley.clearance)
          && bound.all fun b => decide ((e : Int) < b.edge))

/-- The trolley's boundary, with the zones acquired ahead (R90, R91). -/
def trolleyScan (k : Crane) (p : Pose) (prof : Profile) (outward : Bool) (v : Nat) (s : State) :
    Option Boundary × State :=
  match nearest (candidates s k p prof outward) with
  | [] => (none, s)
  | c :: cs =>
    (some ⟨some c.d, (c :: cs).map (·.cause)⟩,
     (trolleyAhead s k p prof outward v (c :: cs)).foldl (takeAhead k) s)

/-! ### Hoist (R92, R93) -/

/-- The zones beneath the hook: HOOK claims of the pose's sector whose band contains r and whose zone's clear height is at
or below h (R92). -/
def beneath (s : State) (k : Crane) (p : Pose) : List Zone :=
  allZones.filter fun z => (ownClaims s k p).any fun c =>
    c.zone == z && (match c.cls with
      | .jib => false
      | .hook lo hi =>
        decide (lo ≤ p.r) && decide (p.r ≤ hi) && decide (clearHeight s.site.zoneTable z ≤ p.h))

/-- The boundary of a lowering hoist (R92). -/
def hoistLower (k : Crane) (p : Pose) (prof : Profile) (v : Nat) (s : State) : Option Boundary × State :=
  let u := hookUse prof p.load
  let ht := clearHeight s.site.zoneTable
  let below := beneath s k p
  let barred := below.filter fun z => classify s k z u == .unobtainable
  let top := (barred.map ht).foldl max 0
  let bound : Option Boundary :=
    if barred = [] then none
    else some ⟨some ((p.h : Int) - top - prof.dyn.hoist.clearance),
               (barred.filter fun z => ht z == top).map fun z => .zone z u⟩
  let ahead := below.filter fun z => classify s k z u == .acquirable
    && (barred.isEmpty || decide (top < ht z))
    && decide (p.h - ht z ≤ stopDist prof.dyn.hoist v + prof.dyn.hoist.clearance)
  (bound, ahead.foldl (takeAhead k) s)

/-- The boundary of a raising hoist: the top height (R93). -/
def hoistRaise (p : Pose) (prof : Profile) : Boundary :=
  ⟨some ((prof.topHeight : Int) - p.h - prof.dyn.hoist.clearance), [.top]⟩

/-! ### Governing a demand (R84, R85) -/

/-- What the evaluation of one axis gives (R85). -/
structure AxisResult where
  output    : Int
  permitted : Option Nat
  boundary  : Option Boundary
  deriving DecidableEq, Repr

/-- Why an axis is barred in the direction of q (R97, Figure 5-10); WIND prevails. -/
def barredBy (s : State) (k : Crane) (a : Axis) (q : Int) : Option Cause :=
  let stow : Bool := (s.wind k).level == .stow
  let heavy := inOverload s k
  match a with
  | .slew => none
  | .trolley => if 0 < q then (if stow then some .wind else if heavy then some .overload else none) else none
  | .hoist =>
    if q < 0 then (if stow then some .wind else none)
    else if heavy then some .overload else none

/-- The boundary search of an axis in the direction of q at the speed v (R85 step 3). -/
def searchAxis (k : Crane) (p : Pose) (prof : Profile) (a : Axis) (q : Int) (v : Nat) (s : State) :
    Option Boundary × State :=
  match a with
  | .slew => slewScan k p prof (0 < q) true v s
  | .trolley => trolleyScan k p prof (0 < q) v s
  | .hoist => if q < 0 then hoistLower k p prof v s else (some (hoistRaise p prof), s)

/-- The permitted speed at a boundary: Vcap when there is none (R82). -/
def boundSpeed (d : AxisDyn) (b : Option Boundary) : Nat :=
  match b with
  | none => d.vcap
  | some b =>
    match b.dist with
    | none => 0
    | some x => permittedSpeed d x

/-- sign(q) × n. -/
def signed (q : Int) (n : Nat) : Int := if q < 0 then -(n : Int) else n

/-- The output speed of one axis is decided (R85). -/
def evalAxis (k : Crane) (p : Pose) (prof : Profile) (a : Axis) (q : Int) (s : State) : AxisResult × State :=
  let d := onAxis prof.dyn a
  if q = 0 then (⟨0, none, none⟩, s)
  else match barredBy s k a q with
  | some c => (⟨0, some 0, some ⟨none, [c]⟩⟩, s)
  | none =>
    let (b, s1) := searchAxis k p prof a q (min q.natAbs d.vcap) s
    let perm := boundSpeed d b
    (⟨signed q (min (min q.natAbs d.vcap) perm), some perm, b⟩, s1)

/-- The zones of a boundary's cause that are waitable for crane k, each for the use the axis met it with (R99). -/
def waitableCauses (s : State) (k : Crane) (b : Option Boundary) : List Occ :=
  match b with
  | none => []
  | some b => b.causes.filterMap fun c =>
    match c with
    | .zone z u => if waitable s k z u then some ⟨z, u⟩ else none
    | .cap => none
    | .chart => none
    | .rmax => none
    | .rmin => none
    | .stowRadius => none
    | .top => none
    | .wind => none
    | .overload => none

/-- The lowest-numbered of a list of occupancies. -/
def lowestOcc (l : List Occ) : Option Occ := l.find? fun o => l.all fun e => o.zone.val ≤ e.zone.val

/-- The wait placement after the axes are evaluated (R99). -/
def placeWait (k : Crane) (bs : List (Option Boundary)) (s : State) : State :=
  match (bs.filterMap fun b => lowestOcc (waitableCauses s k b)).head? with
  | none => dropWait k s
  | some o => requestWait k o.zone o.use s

/-- Clamp counters for the axes whose flag is set (R98). -/
def countClamps (k : Crane) (c : PerAxis Bool) (s : State) : State :=
  let s1 := if c.slew then count k .slewClamps 1 s else s
  let s2 := if c.trolley then count k .trolleyClamps 1 s1 else s1
  if c.hoist then count k .hoistClamps 1 s2 else s2

/-- An accepted demand is evaluated for crane k (R84): the axes in the order slew, trolley, hoist, then the wait
placement, then outputs, clamp counters and record. It gives the output speeds and the clamp flags. -/
def evaluate (k : Crane) (p : Pose) (prof : Profile) (q : PerAxis Int) (s : State) :
    (PerAxis Int × PerAxis Bool) × State :=
  let (rs, s1) := evalAxis k p prof .slew q.slew s
  let (rt, s2) := evalAxis k p prof .trolley q.trolley s1
  let (rh, s3) := evalAxis k p prof .hoist q.hoist s2
  let s4 := placeWait k [rs.boundary, rt.boundary, rh.boundary] s3
  let out : PerAxis Int := ⟨rs.output, rt.output, rh.output⟩
  let flags := clampFlags q out
  let s5 := countClamps k flags s4
  ((out, flags), s5.setGov k { s5.govRec k with
    requested := q, output := out, permitted := ⟨rs.permitted, rt.permitted, rh.permitted⟩,
    boundary := ⟨rs.boundary, rt.boundary, rh.boundary⟩ })

/-- A demand whose speeds are zeroed (R40, R83): requested speeds recorded, everything else of the record absent. -/
def zeroDemand (k : Crane) (q : PerAxis Int) (s : State) : (PerAxis Int × PerAxis Bool) × State :=
  ((.all 0, .all false), s.setGov k { s.govRec k with
    requested := q, output := .all 0, permitted := .all none, boundary := .all none })

/-- The outgoing speeds of an accepted demand are decided: zero where a condition of R40 holds, and otherwise by
evaluation (R38 step 3). A RUN crane whose lane is LIVE has a pose record and a profile; without either it is zeroed too
(log 19). -/
def govern (k : Crane) (q : PerAxis Int) (s : State) : (PerAxis Int × PerAxis Bool) × State :=
  if (reasonFlags s k).any then zeroDemand k q s
  else match s.pose k, s.profile k with
  | some p, some prof => evaluate k p prof q s
  | _, _ => zeroDemand k q s

/-! ### Overrun check (R100, R101) -/

/-- The overrun a pose shows: S(|vp|) - d with the cause of the boundary, absent when there is none (R100). A crane that is
not present shows none, its profile taking no part (R1). -/
def overrunOf (k : Crane) (s : State) : Option (Nat × List Cause) :=
  match s.pose k, inForce s k (s.profile k) with
  | some p, some prof =>
    if p.speed.slew = 0 then none
    else
      let v := p.speed.slew.natAbs
      match (slewScan k p prof (0 < p.speed.slew) false v s).1 with
      | none => none
      | some b =>
        match b.dist with
        | none => none
        | some d =>
          if d < (stopDist prof.dyn.slew v : Int) then some (((stopDist prof.dyn.slew v : Int) - d).toNat, b.causes)
          else none
  | _, _ => none

/-- The lowest-numbered zone of a cause, if any. -/
def causeZone (cs : List Cause) : Option Zone :=
  let zs := cs.filterMap fun c =>
    match c with
    | .zone z _ => some z
    | .cap => none
    | .chart => none
    | .rmax => none
    | .rmin => none
    | .stowRadius => none
    | .top => none
    | .wind => none
    | .overload => none
  zs.find? fun z => zs.all fun e => z.val ≤ e.val

/-- The overrun check on a judged pose of crane k (R100, R101). -/
def overrunCheck (k : Crane) (s : State) : State :=
  match overrunOf k s with
  | none => s.setGov k { s.govRec k with overrunMark := false }
  | some (excess, causes) =>
    if (s.govRec k).overrunMark then s
    else
      let z := causeZone causes
      let s1 := offer { kind := .overrun, crane := some k, zone := z, value := excess } (count k .overruns 1 s)
      let s2 := trigger .overrun (some k) z s1
      s2.setGov k { s2.govRec k with overrunMark := true }

/-! ### Chart judgement (R96) -/

/-- The result of judging crane k's chart (R96); CLEAR for a crane that is not present, whose chart takes no part (R1). -/
def chartResult (s : State) (k : Crane) : ChartMark :=
  if inOverload s k then .overload
  else match s.pose k, limitOf s k with
  | some p, some lim => if lim < p.r then .limit else .clear
  | _, _ => .clear

/-- The chart judgement on a judged pose of crane k (R96). -/
def chartJudge (k : Crane) (s : State) : State :=
  let m := chartResult s k
  let s1 :=
    if m = .clear ∨ m = (s.govRec k).chartMark then s
    else noteChartOverrun k (offer
      { kind := .chartOverrun, crane := some k,
        value := if m = .overload then overloadValue else (limitOf s k).getD 0 } s)
  s1.setGov k { s1.govRec k with chartMark := m }

/-- Both marks are cleared when lane k leaves LIVE (R83). -/
def clearMarks (k : Crane) (s : State) : State :=
  s.setGov k { s.govRec k with chartMark := .clear, overrunMark := false }

end Sys2Proof.Machine
end

