-- ==== Sys2Proof/Machine/Wind.lean ====
section
/-! DEFINITION. The Wind Monitor (spec/06): initialisation (R103), fault values (R105), the jump limit (R107, R108),
qualified samples (R109 to R112), the wind level (R113, R114), the pending policy (R19, R117) and the forced STOW (R115).
A change of level is reported here (R116); the levels a sample changes to are given back, in order, so that the blocks
after the monitor act on them (R118). -/

namespace Sys2Proof.Machine

/-! ### Levels -/

/-- The threshold at which a level is declared (R6). -/
def onOf (p : Policy) : WindLevel → Nat
  | .calm => 0 | .alert => p.onAlert | .hold => p.onHold | .stow => p.onStow

/-- The threshold below which a level clears (R6). -/
def offOf (p : Policy) : WindLevel → Nat
  | .calm => 0 | .alert => p.offAlert | .hold => p.offHold | .stow => p.offStow

/-- One step down (R114). -/
def levelBelow : WindLevel → WindLevel
  | .calm => .calm | .alert => .calm | .hold => .alert | .stow => .hold

/-- The wind level of crane k becomes `new`; a change is reported as WIND_LEVEL (R116). -/
def setLevel (k : Crane) (new : WindLevel) (s : State) : State :=
  let w := s.wind k
  let s1 := s.setWind k { w with level := new }
  if w.level = new then s1
  else offer { kind := .windLevel, crane := some k, value := windCode new,
               clearEdge := windRank new < windRank w.level } s1

/-- The levels a change from `old` to `new` hands on: none without a change (R118). -/
def handed (old new : WindLevel) : List WindLevel := if old = new then [] else [new]

/-- Every dwell count is zero: the raise counts and the clear count (R102). -/
def WindRec.dwellsZero (w : WindRec) : Bool :=
  w.raiseAlert == 0 && w.raiseHold == 0 && w.raiseStow == 0 && w.clearCount == 0

/-! ### The record under one sample -/

/-- One raise count of level `l` is judged against the wind figure; a level at or below the current level is not judged
(R113). -/
def raiseCount (p : Policy) (current l : WindLevel) (figure n : Nat) : Nat :=
  if windRank current < windRank l then (if onOf p l ≤ figure then n + 1 else 0) else n

/-- The raise counts are judged (R113). -/
def WindRec.countRaises (w : WindRec) (p : Policy) (figure : Nat) : WindRec :=
  { w with
    raiseAlert := raiseCount p w.level .alert figure w.raiseAlert
    raiseHold := raiseCount p w.level .hold figure w.raiseHold
    raiseStow := raiseCount p w.level .stow figure w.raiseStow }

/-- A raise count of a level above the current one has reached the declare dwell (R113). -/
def earned (p : Policy) (current l : WindLevel) (n : Nat) : Bool :=
  windRank current < windRank l && p.declareDwell ≤ n

/-- The level the raise counts declare: the highest that has earned it (R113). -/
def WindRec.declared (w : WindRec) (p : Policy) : Option WindLevel :=
  if earned p w.level .stow w.raiseStow then some .stow
  else if earned p w.level .hold w.raiseHold then some .hold
  else if earned p w.level .alert w.raiseAlert then some .alert
  else none

/-- The raise counts of every level at or below `l` are zero (R113). -/
def WindRec.zeroRaises (w : WindRec) (l : WindLevel) : WindRec :=
  { w with
    raiseAlert := if windRank .alert ≤ windRank l then 0 else w.raiseAlert
    raiseHold := if windRank .hold ≤ windRank l then 0 else w.raiseHold
    raiseStow := if windRank .stow ≤ windRank l then 0 else w.raiseStow }

/-- The mean m moves by ⌈(x - m) / 2^k⌉; an absent mean becomes x (R111). -/
def nextMean (shift : Nat) (mean : Option Nat) (x : Nat) : Nat :=
  match mean with
  | none => x
  | some m => ((m : Int) - ((m : Int) - (x : Int)) / (2 ^ shift : Nat)).toNat

/-- The newest `n` samples of a window (R19, R110). -/
def newest (n : Nat) (ws : List Nat) : List Nat := ws.drop (ws.length - n)

/-- The gust: the largest sample of the window (R110). -/
def gustOf (ws : List Nat) : Nat := ws.foldl max 0

/-- The wind figure w = max(m, ⌊g × G / 16⌋) (R112). -/
def windFigure (p : Policy) (mean gust : Nat) : Nat := max mean (gust * p.gustWeight / 16)

/-- Step 3 of R109: window, mean, last qualified sample, wind figure (R110 to R112). -/
def WindRec.advance (w : WindRec) (p : Policy) (x : Nat) : WindRec :=
  let window := newest p.ng (w.window ++ [x])
  let mean := nextMean p.meanShift w.mean x
  { w with window := window, mean := some mean, last := some x, figure := some (windFigure p mean (gustOf window)) }

/-! ### Judging a qualified sample -/

/-- The level is judged for raising (R113). -/
def judgeRaise (k : Crane) (p : Policy) (figure : Nat) (s : State) : State :=
  let w := (s.wind k).countRaises p figure
  match w.declared p with
  | none => s.setWind k w
  | some l => setLevel k l (s.setWind k { w.zeroRaises l with clearCount := 0 })

/-- The level is judged for clearing (R114). -/
def judgeClear (k : Crane) (p : Policy) (figure : Nat) (s : State) : State :=
  let w := s.wind k
  if w.level = .calm then s
  else if offOf p w.level ≤ figure then s.setWind k { w with clearCount := 0 }
  else if w.clearCount + 1 < p.clearDwell then s.setWind k { w with clearCount := w.clearCount + 1 }
  else setLevel k (levelBelow w.level) (s.setWind k { w with clearCount := 0 })

/-- COMMIT_RESULT for crane k: byte 8 the tag, byte 9 the outcome (R17, R19, R174). Bytes 6 and 7, which R174 does not name
here, are zero (DEDUCED, log 40). -/
def commitResult (k : Crane) (tag : Option Byte) (outcome : Nat) (s : State) : State :=
  offer { kind := .commitResult, crane := some k, value := ((tag.map (·.toNat)).getD 0) * 256 + outcome } s

/-- Crane k's pending policy commit becomes active (R19, R117): the gust window keeps its newest samples, the tag slot
becomes absent, COMMIT_RESULT is reported. -/
def applyPolicy (k : Crane) (p : Policy) (s : State) : State :=
  let w := s.wind k
  let tag := s.mgmt.policyTag[k]
  let s1 := s.setSite { s.site with policies := s.site.policies.set k (some p),
                                    policyCommit := s.site.policyCommit.set k none }
  let s2 := s1.setMgmt { s1.mgmt with policyTag := s1.mgmt.policyTag.set k none }
  commitResult k tag appliedCode (s2.setWind k { w with window := newest p.ng w.window })

/-- Step 2 of R109: a pending policy commit is applied when every dwell count is zero (R19). -/
def policyStep (k : Crane) (s : State) : State :=
  match s.site.policyCommit[k] with
  | none => s
  | some p => if (s.wind k).dwellsZero then applyPolicy k p s else s

/-- A qualified sample x of crane k is judged (R109). -/
def qualify (k : Crane) (x : Nat) (s : State) : List WindLevel × State :=
  let s1 := policyStep k (s.setWind k { s.wind k with faultMark := false })
  match s1.policy k with
  | none => ([], s1)
  | some p =>
    let s2 := s1.setWind k ((s1.wind k).advance p x)
    let figure := ((s2.wind k).figure).getD 0
    let s3 := judgeRaise k p figure s2
    let s4 := judgeClear k p figure s3
    (handed (s2.wind k).level (s3.wind k).level ++ handed (s3.wind k).level (s4.wind k).level, s4)

/-! ### Intake of a sample (R104 to R108) -/

/-- |a - b|. -/
def gap (a b : Nat) : Nat := max a b - min a b

/-- The monitor degrades (R105). -/
def degrade (k : Crane) (p : Policy) (s : State) : List WindLevel × State :=
  let w := s.wind k
  let s1 := offer { kind := .sensorFault, crane := some k, value := p.faultRun }
    (s.setWind k { w with faultMark := true })
  if w.level = .calm ∨ w.level = .alert then
    ([.hold], setLevel k .hold (s1.setWind k { s1.wind k with raiseAlert := 0, raiseHold := 0 }))
  else ([], s1)

/-- A fault value is taken (R105). -/
def takeFault (k : Crane) (p : Policy) (s : State) : List WindLevel × State :=
  let w := s.wind k
  let run := min 255 (w.faultRun + 1)
  let s1 := s.setWind k { w with pending := none, faultRun := run, clearCount := 0 }
  if p.faultRun ≤ run ∧ w.faultMark = false then degrade k p s1 else ([], s1)

/-- A reading x passes the jump limit `j` (R107). -/
def jumpPasses (last : Option Nat) (j x : Nat) : Bool :=
  j == 0 || (match last with | none => true | some l => gap x l ≤ j)

/-- A reading is judged by the jump limit `j` with no pending sample held (R107). -/
def judgeJump (k : Crane) (j x : Nat) (s : State) : List WindLevel × State :=
  if jumpPasses (s.wind k).last j x then qualify k x s else ([], s.setWind k { s.wind k with pending := some x })

/-- A reading is taken (R107, R108): it sets the fault run to zero first (R105). -/
def takeReading (k : Crane) (p : Policy) (y : Nat) (s : State) : List WindLevel × State :=
  let w := s.wind k
  let s1 := s.setWind k { w with faultRun := 0, pending := none }
  match w.pending with
  | none => judgeJump k p.jumpLimit y s1
  | some x =>
    if gap y x ≤ p.jumpLimit then
      let (l1, s2) := qualify k x s1
      let (l2, s3) := qualify k y s2
      (l1 ++ l2, s3)
    else judgeJump k p.jumpLimit y s1

/-- A sample x of crane k is taken by its RUNNING monitor (R104). -/
def takeSample (k : Crane) (x : Nat) (s : State) : List WindLevel × State :=
  match s.policy k with
  | none => ([], s)
  | some p => if x = 65535 then takeFault k p s else takeReading k p x s

/-- The Wind Monitor acts on a pose of crane k handed to it (R104). -/
def windOnPose (k : Crane) (s : State) : List WindLevel × State :=
  match s.pose k with
  | none => ([], s)
  | some p => if p.newWind ∧ (s.wind k).running = true then takeSample k p.wind s else ([], s)

/-! ### Forcing and initialisation (R103, R115) -/

/-- Vane Control forces the level of crane k to STOW (R115). -/
def forceStow (k : Crane) (s : State) : List WindLevel × State :=
  let w := s.wind k
  (handed w.level .stow,
   setLevel k .stow (s.setWind k { w with raiseAlert := 0, raiseHold := 0, raiseStow := 0, clearCount := 0 }))

/-- Wind Monitor k is initialised, or left IDLE with its initial values (R103); a fall of the level to CALM is
reported. -/
def initialise (k : Crane) (running : Bool) (s : State) : List WindLevel × State :=
  let s1 := setLevel k .calm s
  (handed (s.wind k).level .calm, s1.setWind k (.initial running))

end Sys2Proof.Machine
end

