-- ==== Sys2Proof/Machine/Vane.lean ====
section
/-! DEFINITION. Vane Control (spec/07): the sweep (R121), entry into preparation (R120) and the start-up decision (R129,
R130), the return of swept zones (R125), abandonment (R126), the vane timeout (R124) and RESUME CRANE (R127). The entry
into VANING (R122) is `checkVaning` of Machine/Queues.lean. -/

namespace Sys2Proof.Machine

/-! ### Preparation -/

/-- One zone of the sweep set (R121, Figure 7-3). -/
def sweepZone (k : Crane) (s : State) (z : Zone) : State :=
  let r := s.zone z
  match r.st with
  | .free => s.setZone z { r with st := .swept k s.now }
  | .held j _ t =>
    if j = k then s.setZone z { r with st := .swept k t, vacate := false }
    else markVacate z .sweep (s.setZone z { r with sweepPending := some k })
  | .swept _ _ => s

/-- The sweep set of crane k: every zone its active map JIB-claims (R121), in ascending zone number. -/
def sweepSet (s : State) (k : Crane) : List Zone :=
  match s.map k with
  | none => []
  | some m => allZones.filter (jibZones m)

/-- Crane k enters PREPARING with its sweep, and VANING when nothing is pending (R119 to R122). -/
def enterPreparing (k : Crane) (prof : Profile) (s : State) : State :=
  let s1 := setVaneRec k { state := .preparing, start := some s.now, timeout := some (s.now + 1000 * prof.vaneTimeout),
                           blocked := false } s
  let s2 := withdrawWait k s1
  checkVaning k ((sweepSet s2 k).foldl (sweepZone k) s2)

/-- The entry conditions of R120 at the pose record: level STOW, hook parked, trolley at or inside the stow radius. -/
def entryDue (s : State) (k : Crane) (prof : Profile) : Bool :=
  match s.pose k with
  | none => false
  | some p => (s.wind k).level == .stow && p.hookParked.value && decide (p.r ≤ prof.stowRadius)

/-- Entry into preparation is judged on a pose handed with the lane LIVE (R120). -/
def judgeEntry (k : Crane) (s : State) : State :=
  match s.profile k with
  | none => s
  | some prof =>
    if s.mode = .operating ∧ prof.present = true ∧ (s.vane k).state = .none ∧ (s.lane k).state = .live
        ∧ entryDue s k prof = true then enterPreparing k prof s
    else s

/-- The level is forced to STOW and the crane enters PREPARING (R129, R130). -/
def startVaning (k : Crane) (prof : Profile) (s : State) : List WindLevel × State :=
  let (ls, s1) := forceStow k s
  (ls, enterPreparing k prof s1)

/-! ### Return of swept zones (R125) -/

/-- One zone SWEPT for k at the return, under the footprint `f` (R125, Figure 7-4). -/
def returnZone (k : Crane) (f : List Occ) (s : State) (z : Zone) : State :=
  let r := s.zone z
  match r.st with
  | .free => s
  | .held _ _ _ => s
  | .swept j t =>
    if j ≠ k then s
    else match useIn f z with
      | none => release z s
      | some u =>
        if (s.lane k).state ≠ .live then s.setZone z { r with st := .held k .frozen t, vacate := false }
        else if mayUse s k z u then
          judgeLimit z (s.setZone z { r with st := .held k (kindFor s k z) t, vacate := false })
        else offer { kind := .exitOnly, crane := some k, zone := some z, value := useCode u }
          (s.setZone z { r with st := .held k .exitOnly t, vacate := false })

/-- The return of swept zones of crane k, after which its vane state is NONE (R125). -/
def returnSwept (k : Crane) (s : State) : State :=
  let s1 := allZones.foldl (unpendZone k) s
  setVaneRec k .reset (allZones.foldl (returnZone k (footprint s1 k)) s1)

/-- A change of level to HOLD or lower while crane k is PREPARING abandons the preparation (R126). -/
def judgeAbandon (k : Crane) (s : State) (l : WindLevel) : State :=
  if l ≠ .stow ∧ (s.vane k).state = .preparing then returnSwept k s else s

/-! ### On a pose and at COMMENCE -/

/-- Vane Control acts on a pose of crane k (R120, R126, R130): `levels` are the changes of level handed on this pose, and
`startUp` says that the pose made the lane LIVE and was judged as a settling pose. A crane that was PREPARING or VANING
across the outage gets no start-up decision, also when this pose abandons its preparation (R128, Return to LIVE). It gives the
changes of level it makes itself. -/
def vaneOnPose (k : Crane) (levels : List WindLevel) (startUp : Bool) (s : State) : List WindLevel × State :=
  let s1 := levels.foldl (judgeAbandon k) s
  match s1.profile k with
  | none => ([], s1)
  | some prof =>
    if startUp = true ∧ s1.mode = .operating ∧ prof.present = true ∧ (s.vane k).state = .none
        ∧ brakeReleased s1 k = true then startVaning k prof s1
    else ([], judgeEntry k s1)

/-- The start-up decision at COMMENCE for one crane (R129); a forced level is handed to the Booking Table (R118). -/
def startUpAtCommence (s : State) (k : Crane) : State :=
  match s.profile k with
  | none => s
  | some prof =>
    if prof.present = true ∧ (s.lane k).state = .live ∧ brakeReleased s k = true then
      let (ls, s1) := startVaning k prof s
      if ls = [] then s1 else suspend k .wind s1
    else s

/-! ### Commands -/

/-- The timeout instant of crane k's preparation is reached while it is PREPARING and not yet blocked (R124). -/
def blockPreparation (k : Crane) (s : State) : State :=
  let zs := sweepPendingFor s k
  let s1 := s.setVane k { s.vane k with blocked := true }
  trigger .vaneBlocked (some k) zs.head?
    (offer { kind := .vaneBlocked, crane := some k, zone := zs.head?, value := zs.length } s1)

/-- VANE_TIMEOUT (R124): the timebase has reached the timeout instant (log 3). -/
def execVaneTimeout (k : Crane) (s : State) : Out :=
  .next (match (s.vane k).timeout with
    | none => s
    | some t =>
      if (s.vane k).state = .preparing ∧ (s.vane k).blocked = false then blockPreparation k (s.waitUntil t) else s)

/-- RESUME CRANE judged (R127). The change of vane state is handed to the Booking Table (R119, R147). -/
def resumeCrane (tgt : Target) (s : State) : Reply × State :=
  match targetCrane tgt with
  | none => (.no .badTarget, s)
  | some k =>
    if !cranePresent s k then (.no .badTarget, s)
    else if (s.vane k).state ≠ .vaning then (.no .badState, s)
    else if (s.wind k).level = .stow then (.no .notPermitted, s)
    else (.ok, judgeResume k (returnSwept k s))

/-- RESUME_CRANE (R127). -/
def execResumeCrane (tag : Byte) (tgt : Target) (s : State) : Out :=
  .next (answer .resumeCrane tag (resumeCrane tgt s))

end Sys2Proof.Machine
end

