-- ==== Sys2Proof/Machine/SiteTables.lean ====
section
/-! DEFINITION. The Site Tables (spec/01): field checks and storing of segments (R2 to R6, R10 to R12), validation of a
commit (R13 to R15), structural commits with their application test and reconciliation (R16 to R18), policy commits (R19),
zone table commits (R20, R69), and the judgement of the site image at COMMENCE (R21). -/

namespace Sys2Proof.Machine

/-! ### Field checks of segments (R2 to R6) -/

/-- `n` lies within a range. -/
def within (lo hi n : Nat) : Bool := lo ≤ n && n ≤ hi

/-- An omitted timer passes; one that is carried lies within its range (R2). -/
def optWithin (lo hi : Nat) : Option Nat → Bool
  | none => true
  | some n => within lo hi n

/-- An activity class from its code (Figure 11-9). -/
def activityOf (n : Nat) : Option Activity :=
  if n = 1 then some .primary else if n = 2 then some .secondary else none

/-- The fields of a profile lie within the ranges of Figure 1-2. -/
def profileFieldsOk (p : ProfileSeg) : Bool :=
  within 1 4000 p.dyn.slew.vcap && within 1 4000 p.dyn.slew.decel && within 0 2000 p.dyn.slew.reaction
    && within 0 4096 p.dyn.slew.clearance
    && within 0 1199 p.rmin && within 1 1200 p.rmax
    && within 1 100 p.dyn.trolley.vcap && within 1 100 p.dyn.trolley.decel && within 0 2000 p.dyn.trolley.reaction
    && within 0 100 p.dyn.trolley.clearance
    && within 0 1200 p.stowRadius && within 0 3000 p.topHeight
    && within 1 200 p.dyn.hoist.vcap && within 1 200 p.dyn.hoist.decel && within 0 2000 p.dyn.hoist.reaction
    && within 0 200 p.dyn.hoist.clearance
    && within 0 20000 p.emptyHook
    && optWithin 50 1000 p.tstale && optWithin 500 10000 p.tlost && optWithin 50 1000 p.tcab
    && within 10 600 p.vaneTimeout

/-- The default lane timers in milliseconds (R2, R22). -/
def defaultTstale : Nat := 250
def defaultTlost : Nat := 2000
def defaultTcab : Nat := 200

/-- The profile a segment stages, its omitted timers at their defaults; none when a field is outside its range (R2). -/
def stagedProfile (p : ProfileSeg) : Option Profile :=
  match activityOf p.activity.slew, activityOf p.activity.trolley, activityOf p.activity.hoist with
  | some a, some b, some c =>
    if profileFieldsOk p then
      some { present := p.present, dyn := p.dyn, rmin := p.rmin, rmax := p.rmax, stowRadius := p.stowRadius,
             topHeight := p.topHeight, emptyHook := p.emptyHook, activity := ⟨a, b, c⟩,
             tstale := p.tstale.getD defaultTstale, tlost := p.tlost.getD defaultTlost,
             tcab := p.tcab.getD defaultTcab, vaneTimeout := p.vaneTimeout }
    else none
  | _, _, _ => none

/-- A claim a segment carries, with its checks: zone, class, and rlo ≤ rhi for a HOOK band (R4; log 30). -/
def stagedClaim (c : RawClaim) : Option Claim :=
  match zoneOf? c.zone with
  | none => none
  | some z =>
    if c.cls = 1 then some ⟨z, .jib⟩
    else if c.cls = 2 then (if c.rlo ≤ c.rhi then some ⟨z, .hook c.rlo c.rhi⟩ else none)
    else none

/-- The claims of one sector; none when the count exceeds 4 or a claim fails its checks (R4). -/
def stagedSector (r : RawSector) : Option (List Claim) :=
  if 4 < r.count then none else (r.claims.take r.count).mapM stagedClaim

/-- A sector names a zone twice (R4). -/
def namesTwice (cs : List Claim) : Bool := !(decide (cs.map (·.zone)).Nodup)

/-- A chart segment; none when the count or a field is outside its range. Entries after the count are ignored (R5). -/
def stagedChart (c : RawChart) : Option Chart :=
  let es := c.entries.take c.count
  if within 1 16 c.count && es.all (fun e => within 0 1200 e.bound && within 0 20000 e.rating) then some es else none

/-- The fields of a policy lie within the ranges of Figure 1-3. -/
def policyFieldsOk (p : Policy) : Bool :=
  within 1 32 p.ng && within 1 12 p.meanShift && within 8 16 p.gustWeight && within 0 800 p.jumpLimit
    && within 1 255 p.faultRun
    && [p.onAlert, p.offAlert, p.onHold, p.offHold, p.onStow, p.offStow].all (within 0 800)
    && within 1 255 p.declareDwell && within 1 65535 p.clearDwell && within 0 60 p.derateAlert
    && within 0 60 p.derateHold

/-- The fields of a zone record lie within their ranges (R3). -/
def zoneFieldsOk (z : ZoneStatic) : Bool := within 0 3000 z.clearHeight && within 0 600 z.holdLimit

/-! ### LOAD SEGMENT (R11, R12) -/

/-- The staging area of crane k. -/
def State.staging (s : State) (k : Crane) : CraneStaging := s.site.staging[k]

/-- The staging area of crane k becomes `c`. -/
def State.setStaging (s : State) (k : Crane) (c : CraneStaging) : State :=
  s.setSite { s.site with staging := s.site.staging.set k c }

/-- A reach map segment is stored; segment 0 first restarts the map's staging (R12). -/
def storeMapSegment (k : Crane) (n : Fin 16) (sectors : List (List Claim)) (s : State) : State :=
  let c := s.staging k
  let old := if n = 0 then Vector.replicate 16 none else c.map
  s.setStaging k { c with map := old.set n (some sectors) }

/-- A zone table segment is stored; segment 0 first restarts zone staging (R12). -/
def storeZoneSegment (n : Fin 4) (zones : List ZoneStatic) (s : State) : State :=
  let old := if n = 0 then Vector.replicate 4 none else s.site.zoneStaging
  s.setSite { s.site with zoneStaging := old.set n (some zones) }

/-- A segment for crane k is judged and stored (R11 tests 2 to 4). RANGE is judged over the whole segment before
DUPLICATE (log 34). -/
def loadForCrane (k : Crane) (seg : Nat) (content : Segment) (s : State) : Reply × State :=
  match content with
  | .profile p =>
    if seg ≠ 0 then (.no .range, s)
    else match stagedProfile p with
    | none => (.no .range, s)
    | some q => (.ok, s.setStaging k { s.staging k with profile := some q })
  | .reachMap sectors =>
    if h : seg < 16 then
      match sectors.mapM stagedSector with
      | none => (.no .range, s)
      | some cs => if cs.any namesTwice then (.no .duplicate, s) else (.ok, storeMapSegment k ⟨seg, h⟩ cs s)
    else (.no .range, s)
  | .loadChart c =>
    if seg ≠ 0 then (.no .range, s)
    else match stagedChart c with
    | none => (.no .range, s)
    | some q => (.ok, s.setStaging k { s.staging k with chart := some q })
  | .policy p =>
    if seg ≠ 0 ∨ policyFieldsOk p = false then (.no .range, s)
    else (.ok, s.setStaging k { s.staging k with policy := some p })
  | .zoneTable _ => (.no .badTarget, s)
  | .unknown _ => (.no .range, s)

/-- A segment for the site is judged and stored (R11). -/
def loadForSite (seg : Nat) (content : Segment) (s : State) : Reply × State :=
  match content with
  | .zoneTable zs =>
    if h : seg < 4 then
      if zs.all zoneFieldsOk then (.ok, storeZoneSegment ⟨seg, h⟩ zs s) else (.no .range, s)
    else (.no .range, s)
  | .unknown _ => (.no .range, s)
  | .profile _ => (.no .badTarget, s)
  | .reachMap _ => (.no .badTarget, s)
  | .loadChart _ => (.no .badTarget, s)
  | .policy _ => (.no .badTarget, s)

/-- LOAD SEGMENT judged (R11): the target is a crane for a crane's tables and the site for the zone table (log 9). -/
def loadSegment (tgt : Target) (seg : Nat) (content : Segment) (s : State) : Reply × State :=
  if targetIsSite tgt then loadForSite seg content s
  else match targetCrane tgt with
  | none => (.no .badTarget, s)
  | some k => loadForCrane k seg content s

/-- LOAD_SEGMENT (R11). -/
def execLoadSegment (tag : Byte) (tgt : Target) (seg : Nat) (content : Segment) (s : State) : Out :=
  .next (answer .loadSegment tag (loadSegment tgt seg content s))

/-! ### Staged tables -/

/-- The sixteen sectors of one segment place; a sector the segment did not bring has no claim. -/
def sixteen (cs : List (List Claim)) : List (List Claim) := (cs ++ List.replicate 16 []).take 16

/-- The staged map, once all sixteen places are received (R10). -/
def stagedMap (c : CraneStaging) : Option ReachMap := (c.map.toList.mapM id).map fun l => l.flatMap sixteen

/-- A zone that is not present, with nothing granted. -/
def noZone : ZoneStatic := ⟨false, 0, noPerms, 0⟩

/-- The staged zone table, once all four places are received (R10). -/
def stagedZoneTable (s : State) : Option ZoneTable :=
  (s.site.zoneStaging.toList.mapM id).map fun l =>
    Vector.ofFn fun i : Fin 64 => (l.getD (i.val / 16) []).getD (i.val % 16) noZone

/-! ### Validation (R14, R15, Figure 1-5) -/

/-- The tables of a crane as they would stand after a commit. -/
structure Tables where
  profile : Option Profile
  map     : Option ReachMap
  chart   : Option Chart
  policy  : Option Policy

/-- The active tables of crane k. -/
def activeTables (s : State) (k : Crane) : Tables := ⟨s.profile k, s.map k, s.chart k, s.policy k⟩

/-- The active tables of crane k with those a structural commit names in their place (R14). -/
def tablesWith (s : State) (k : Crane) (c : StructuralCommit) : Tables :=
  ⟨c.profile.or (s.profile k), c.map.or (s.map k), c.chart.or (s.chart k), s.policy k⟩

/-- The crane is present under these tables. -/
def Tables.isPresent (t : Tables) : Bool :=
  match t.profile with
  | none => false
  | some p => p.present

/-- A failed check: its code and, where it concerns zones, the lowest failing zone (R14). -/
structure Failure where
  code : Nat
  zone : Option Zone
  deriving DecidableEq, Repr

/-- Check 1: profile relations. -/
def check1 (p : Profile) : Bool :=
  p.rmin < p.rmax && within p.rmin p.rmax p.stowRadius && p.tstale < p.tlost

/-- A HOOK claim lies within rmin to rmax; a JIB claim has no band (check 2). -/
def bandOk (p : Profile) (c : Claim) : Bool :=
  match c.cls with
  | .jib => true
  | .hook lo hi => p.rmin ≤ lo && hi ≤ p.rmax

/-- Check 2: band placement. -/
def check2 (p : Profile) (m : ReachMap) : Bool := m.all fun cs => cs.all (bandOk p)

/-- The zones that fail check 3: claimed, and not present in the active zone table (R1; log 29). -/
def failing3 (s : State) (m : ReachMap) : List Zone := allZones.filter fun z => claims m z && !zonePresent s z

/-- The zones a map HOOK-claims anywhere. -/
def hookZones (m : ReachMap) (z : Zone) : Bool := m.any fun cs => cs.any fun c => c.zone == z && c.cls != .jib

/-- The zones that fail check 4: HOOK-claimed, with a clear height the top height does not exceed. -/
def failing4 (t : Option ZoneTable) (p : Profile) (m : ReachMap) : List Zone :=
  allZones.filter fun z => hookZones m z && p.topHeight ≤ clearHeight t z

/-- Check 5: bounds strictly increasing, last bound at least rmax, ratings not increasing. -/
def check5 (p : Profile) (c : Chart) : Bool :=
  decide ((c.map (·.bound)).Pairwise (· < ·)) && decide ((c.map (·.rating)).Pairwise (· ≥ ·))
    && (match c.getLast? with | none => false | some e => p.rmax ≤ e.bound)

/-- The maps of crane j that check 6 compares: its pending structural commit's, and the active one (R15). -/
def comparedMaps (s : State) (j : Crane) (withPending : Bool) : List ReachMap :=
  (s.map j).toList ++ (if withPending then ((s.site.structural[j]).bind (·.map)).toList else [])

/-- The zones that fail check 6: JIB-claimed here and in a compared map of another present crane (R15). -/
def failing6 (s : State) (k : Crane) (m : ReachMap) (withPending : Bool) : List Zone :=
  allZones.filter fun z => jibZones m z && allCranes.any fun j =>
    j != k && cranePresent s j && (comparedMaps s j withPending).any fun n => jibZones n z

/-- Check 7: policy order. -/
def check7 (p : Policy) : Bool :=
  p.offAlert < p.onAlert && p.offHold < p.onHold && p.offStow < p.onStow && p.onAlert < p.onHold
    && p.onHold < p.onStow && p.derateAlert ≤ p.derateHold

/-- A check that fails when some zone fails it, naming the lowest (R14). -/
def zoneCheck (code : Nat) (zs : List Zone) : Option Failure := zs.head?.map fun z => ⟨code, some z⟩

/-- A check that concerns no zone. -/
def plainCheck (code : Nat) (ok : Bool) : Option Failure := if ok then none else some ⟨code, none⟩

/-- Checks 2 to 6 of a crane that would be present, its profile and map given; a check that concerns an absent table is
passed (R14). -/
def presentChecks (s : State) (k : Crane) (p : Profile) (t : Tables) (withPending : Bool) : Option Failure :=
  let onMap (f : ReachMap → Option Failure) : Option Failure := t.map.bind f
  (onMap fun m => plainCheck 2 (check2 p m))
    |>.or (onMap fun m => zoneCheck 3 (failing3 s m))
    |>.or (onMap fun m => zoneCheck 4 (failing4 s.site.zoneTable p m))
    |>.or (t.chart.bind fun c => plainCheck 5 (check5 p c))
    |>.or (onMap fun m => zoneCheck 6 (failing6 s k m withPending))

/-- Checks 1 to 6 in the order of Figure 1-5: the first that fails. -/
def structuralChecks (s : State) (k : Crane) (t : Tables) (withPending : Bool) : Option Failure :=
  match t.profile with
  | none => none
  | some p =>
    (plainCheck 1 (check1 p)).or (if p.present then presentChecks s k p t withPending else none)

/-- Check 7 on the policy, passed when there is none. -/
def policyCheck (t : Tables) : Option Failure := t.policy.bind fun p => plainCheck 7 (check7 p)

/-- Checks 1 to 7 of crane k under the given tables: the first that fails (R14). -/
def allChecks (s : State) (k : Crane) (t : Tables) (withPending : Bool) : Option Failure :=
  (structuralChecks s k t withPending).or (policyCheck t)

/-! ### Structural commits (R16 to R18) -/

/-- Crane k is at rest (R17). -/
def atRest (s : State) (k : Crane) : Bool :=
  match s.pose k with
  | none => false
  | some p =>
    (s.lane k).state == .live && p.speed == .all 0 && (activeBooking s k).isNone && (s.vane k).state == .none

/-- The footprint crane k would have at its current pose under given tables (R18). -/
def footprintUnder (s : State) (k : Crane) (t : Tables) : List Occ :=
  match s.pose k, t.profile, t.map with
  | some p, some prof, some m => footprintOf s.site.zoneTable prof m p (sectorOf p.theta)
  | _, _, _ => []

/-- The zones of that footprint held by, or SWEPT for, another crane (R18). -/
def blockingZones (s : State) (k : Crane) (t : Tables) : List Zone := overlapZones s k (footprintUnder s k t)

/-- The tables a structural commit names become active (R16). -/
def activate (k : Crane) (c : StructuralCommit) (s : State) : State :=
  let t := tablesWith s k c
  s.setSite { s.site with profiles := s.site.profiles.set k t.profile, maps := s.site.maps.set k t.map,
                          charts := s.site.charts.set k t.chart }

/-- One zone of the new footprint at the reconciliation (R18). -/
def reconcileZone (k : Crane) (f : List Occ) (s : State) (z : Zone) : State :=
  match useIn f z, (s.zone z).holder with
  | some u, none => if mayUse s k z u then acquire k z .motion s else takeExitOnly k z u s
  | _, _ => s

/-- A zone that k holds and that is not in the new footprint is released (R18). -/
def reconcileRelease (k : Crane) (f : List Occ) (s : State) (z : Zone) : State :=
  if isHeldBy s k z ∧ (useIn f z).isNone = true then release z s else s

/-- The holds of crane k are brought into line with its footprint (R18): acquisitions, then releases, each in ascending zone
number (the order is DESIGN CHOICE, log 45). -/
def reconcile (k : Crane) (s : State) : State :=
  let f := footprint s k
  allZones.foldl (reconcileRelease k f) (allZones.foldl (reconcileZone k f) s)

/-- The tag slot of crane k's pending structural commit (R163). -/
def setStructuralTag (k : Crane) (tag : Option Byte) (s : State) : State :=
  s.setMgmt { s.mgmt with structuralTag := s.mgmt.structuralTag.set k tag }

/-- Crane k's pending structural commit (R17). -/
def setStructural (k : Crane) (c : Option StructuralCommit) (s : State) : State :=
  s.setSite { s.site with structural := s.site.structural.set k c }

/-- The application test of R18 for a commit of crane k, made while the crane is at rest: the zones that block it, or the
state with the tables active and the holds reconciled. -/
def tryApply (k : Crane) (c : StructuralCommit) (s : State) : List Zone × State :=
  match blockingZones s k (tablesWith s k c) with
  | [] => ([], reconcile k (activate k c s))
  | zs => (zs, s)

/-- A blocked commit is kept, or made, pending; the first refusal is reported (R18). -/
def keepBlocked (k : Crane) (c : StructuralCommit) (zs : List Zone) (s : State) : State :=
  let s1 := setStructural k (some { c with blocked := true }) s
  if c.blocked then s1 else offer { kind := .commitBlocked, crane := some k, zone := zs.head? } s1

/-- A pending structural commit of crane k is put to the application test on a pose that leaves the crane at rest (R17,
R18). -/
def pendingCommitStep (k : Crane) (s : State) : State :=
  match s.site.structural[k] with
  | none => s
  | some c =>
    if atRest s k then
      let tag := s.mgmt.structuralTag[k]
      match tryApply k c (setStructural k none s) with
      | ([], s1) => commitResult k tag appliedCode (setStructuralTag k none s1)
      | (zs, _) => keepBlocked k c zs s
    else s

/-- A pending structural commit of crane k is replaced: reported REPLACED with its tag, its tables discarded (R17). -/
def replaceStructural (k : Crane) (s : State) : State :=
  match s.site.structural[k] with
  | none => s
  | some _ =>
    commitResult k (s.mgmt.structuralTag[k]) replacedCode (setStructuralTag k none (setStructural k none s))

/-- The staging slots a structural commit names are emptied (R16). -/
def emptySlots (k : Crane) (c : StructuralCommit) (s : State) : State :=
  let g := s.staging k
  s.setStaging k
    { g with profile := if c.profile.isSome then none else g.profile,
             map := if c.map.isSome then Vector.replicate 16 none else g.map,
             chart := if c.chart.isSome then none else g.chart }

/-- A structural commit that passed validation (R16 to R18). The commit it replaces is reported REPLACED before the new
commit's own reports, an order the spec does not give (DEDUCED, log 23). -/
def takeStructural (k : Crane) (tag : Byte) (c : StructuralCommit) (s : State) : Reply × State :=
  let s1 := replaceStructural k (emptySlots k c s)
  if s1.mode = .config then (.ok, activate k c s1)
  else if atRest s1 k then
    match tryApply k c s1 with
    | ([], s2) => (.ok, s2)
    | (zs, _) => (.pending, setStructuralTag k (some tag) (keepBlocked k c zs s1))
  else (.pending, setStructuralTag k (some tag) (setStructural k (some c) s1))

/-- A structural commit of crane k with complete tables, judged from test 4 of R13 on: `profile` says that it names the
profile, `other` that it names the map or the chart. -/
def judgeStructural (k : Crane) (tag : Byte) (profile other : Bool) (c : StructuralCommit) (s : State) :
    Reply × State :=
  let t := tablesWith s k c
  if s.mode = .operating ∧ profile = true ∧ t.isPresent ≠ cranePresent s k then (.no .badState, s)
  else if other && !t.isPresent then (.no .badTarget, s)
  else match allChecks s k t true with
  | some f => (.refused .invalid f.code (some k) f.zone, s)
  | none => takeStructural k tag c s

/-- A slot's content where it is named. -/
def named {α : Type} (want : Bool) (o : Option α) : Option α := if want then o else none

/-- A commit of a selection of profile, map and chart of crane k, judged from test 3 of R13 on. -/
def commitStructural (k : Crane) (tag : Byte) (wantProfile wantMap wantChart : Bool) (s : State) : Reply × State :=
  let g := s.staging k
  let m := stagedMap g
  if (wantProfile && g.profile.isNone) || (wantMap && m.isNone) || (wantChart && g.chart.isNone) then
    (.no .incomplete, s)
  else judgeStructural k tag wantProfile (wantMap || wantChart)
    { profile := named wantProfile g.profile, map := named wantMap m, chart := named wantChart g.chart,
      blocked := false } s

/-! ### Policy commits (R19) -/

/-- A pending policy commit of crane k is replaced (R19). -/
def replacePolicy (k : Crane) (s : State) : State :=
  match s.site.policyCommit[k] with
  | none => s
  | some _ =>
    commitResult k (s.mgmt.policyTag[k]) replacedCode
      ((s.setSite { s.site with policyCommit := s.site.policyCommit.set k none }).setMgmt
        { s.mgmt with policyTag := s.mgmt.policyTag.set k none })

/-- A policy commit of crane k, judged from test 3 of R13 on; it can fail only check 7 (R14). -/
def commitPolicy (k : Crane) (tag : Byte) (s : State) : Reply × State :=
  match (s.staging k).policy with
  | none => (.no .incomplete, s)
  | some p =>
    if !cranePresent s k then (.no .badTarget, s)
    else if !check7 p then (.refused .invalid 7 (some k) none, s)
    else
      let s1 := replacePolicy k (s.setStaging k { s.staging k with policy := none })
      if s1.mode = .config then (.ok, s1.setSite { s1.site with policies := s1.site.policies.set k (some p) })
      else
        let s2 := s1.setSite { s1.site with policyCommit := s1.site.policyCommit.set k (some p) }
        (.pending, s2.setMgmt { s2.mgmt with policyTag := s2.mgmt.policyTag.set k (some tag) })

/-! ### Zone table commits (R20) -/

/-- The zones that fail the presence test of R20 against a new table: present now, not present then, and claimed by a
present crane's active map or by a pending map, or with a record that is not FREE. -/
def presenceConflicts (s : State) (t : ZoneTable) : List Zone :=
  allZones.filter fun z => zonePresent s z && !(t[z]).present
    && ((s.zone z).st != .free
        || allCranes.any fun k =>
            (cranePresent s k && ((s.map k).toList.any fun m => claims m z))
              || (((s.site.structural[k]).bind (·.map)).toList.any fun m => claims m z))

/-- Check 4 of crane k under a new zone table, for given tables (R20). -/
def heightFailure (t : ZoneTable) (g : Tables) : Option Zone :=
  match g.profile, g.map with
  | some p, some m => (failing4 (some t) p m).head?
  | _, _ => none

/-- The hook heights test of R20 for one crane: its active tables, and its pending structural commit. -/
def heightTest (s : State) (t : ZoneTable) (k : Crane) : Option Zone :=
  if cranePresent s k then
    (heightFailure t (activeTables s k)).or
      ((s.site.structural[k]).bind fun c => heightFailure t (tablesWith s k c))
  else none

/-- The crane and the zone a failing hook heights test names (R20). R20 says not which, when several fail: the lowest crane
is named, and the lowest failing zone of its active tables before one of its pending commit (DESIGN CHOICE, log 43). -/
def heightConflict (s : State) (t : ZoneTable) : Option (Crane × Zone) :=
  allCranes.findSome? fun k => (heightTest s t k).map fun z => (k, z)

/-- A new zone table becomes active: permissions brought into line, holds re-examined, holds judged against new hold
limits (R20, R58, R69, R79; log 32). The spec does not order the last two; holds are re-examined first (DEDUCED, log 46), and
the zones are judged against their limits in ascending number (DESIGN CHOICE, log 45). -/
def applyZoneTable (t : ZoneTable) (s : State) : State :=
  let s1 := s.setSite { s.site with zoneTable := some t, zoneStaging := Vector.replicate 4 none }
  let s2 := allZones.foldl (alignPerm s.site.zoneTable) s1
  allZones.foldl (fun u z => judgeLimit z u) (reexamine s s2)

/-- A zone table commit, judged from test 3 of R13 on (R20). -/
def commitZoneTable (s : State) : Reply × State :=
  match stagedZoneTable s with
  | none => (.no .incomplete, s)
  | some t =>
    match presenceConflicts s t with
    | z :: _ => (.refused .conflict 0 none (some z), s)
    | [] =>
      match heightConflict s t with
      | some (k, z) => (.refused .invalid 4 (some k) (some z), s)
      | none => (.ok, applyZoneTable t s)

/-! ### COMMIT (R13) -/

/-- The lawful table sets of R13. -/
inductive TableSet where
  | zoneTable
  | policy
  | structural (profile map chart : Bool)
  deriving DecidableEq, Repr

/-- The table set a flag byte names, bit 0 profile, 1 reach map, 2 load chart, 3 wind policy, 4 zone table; none when it
is unlawful (R13, Figure 11-9; log 28). -/
def tableSetOf (b : Byte) : Option TableSet :=
  let n := b.toNat
  if n = 16 then some .zoneTable
  else if n = 8 then some .policy
  else if 1 ≤ n ∧ n ≤ 7 then some (.structural (n.testBit 0) (n.testBit 1) (n.testBit 2))
  else none

/-- COMMIT for a crane. -/
def commitForCrane (k : Crane) (tag : Byte) (set : Byte) (s : State) : Reply × State :=
  match tableSetOf set with
  | none => (.no .range, s)
  | some .zoneTable => (.no .badTarget, s)
  | some .policy => commitPolicy k tag s
  | some (.structural p m c) => commitStructural k tag p m c s

/-- COMMIT for the site. -/
def commitForSite (set : Byte) (s : State) : Reply × State :=
  match tableSetOf set with
  | none => (.no .range, s)
  | some .zoneTable => commitZoneTable s
  | some .policy => (.no .badTarget, s)
  | some (.structural _ _ _) => (.no .badTarget, s)

/-- COMMIT judged (R13): the target is a crane for a crane's tables and the site for the zone table (log 9). -/
def commit (tag : Byte) (tgt : Target) (set : Byte) (s : State) : Reply × State :=
  if targetIsSite tgt then commitForSite set s
  else match targetCrane tgt with
  | none => (.no .badTarget, s)
  | some k => commitForCrane k tag set s

/-- COMMIT (R13). -/
def execCommit (tag : Byte) (tgt : Target) (set : Byte) (s : State) : Out :=
  .next (answer .commit tag (commit tag tgt set s))

/-! ### The site image at COMMENCE (R21) -/

/-- A present crane lacks a table it must have (R21). -/
def lacksTable (s : State) (k : Crane) : Bool := (s.map k).isNone || (s.chart k).isNone || (s.policy k).isNone

/-- The refusal crane k gives rise to, if any (R21). -/
def imageFailure (s : State) (k : Crane) : Option Reply :=
  if !cranePresent s k then none
  else if lacksTable s k then some (.refused .incomplete 0 (some k) none)
  else (allChecks s k (activeTables s k) false).map fun f => .refused .invalid f.code (some k) f.zone

/-- The judgement of the active site image: the refusal of the first failure, if any (R21; log 26). -/
def judgeImage (s : State) : Option Reply :=
  if s.site.zoneTable.isNone then some (.no .incomplete) else allCranes.findSome? (imageFailure s)

end Sys2Proof.Machine
end

