-- ==== Sys2Proof/Machine/Lane.lean ====
section
/-! DEFINITION. The Lane Interface (spec/02) and the two paths through the blocks: intake of an accepted pose (R25 to R31),
the blocks of the pose path (R27), forwarding and the substituted STOP (R34, R42), an accepted demand (R33, R38, R39), the
collecting of bytes into frames (R171), the lane timers (R29, R31, R33), and HALT CRANE and RELEASE CRANE (R36, R37). -/

namespace Sys2Proof.Machine

/-! ### Lane timers (R22) -/

/-- The durations in force: those of the active profile when it is present, otherwise the defaults (R22). -/
def tstaleOf (s : State) (k : Crane) : Nat := ((s.profile k).map (·.tstale)).getD defaultTstale
def tlostOf (s : State) (k : Crane) : Nat := ((s.profile k).map (·.tlost)).getD defaultTlost
def tcabOf (s : State) (k : Crane) : Nat := ((s.profile k).map (·.tcab)).getD defaultTcab

/-- Tstale is started or restarted. -/
def startTstale (k : Crane) (s : State) : State := s.setLane k { s.lane k with tstale := some (s.now + tstaleOf s k) }

/-- Tlost is started. -/
def startTlost (k : Crane) (s : State) : State := s.setLane k { s.lane k with tlost := some (s.now + tlostOf s k) }

/-- Tcab is started or restarted (R32). -/
def startTcab (k : Crane) (s : State) : State := s.setLane k { s.lane k with tcab := some (s.now + tcabOf s k) }

/-! ### Intake of a pose (R25 to R31) -/

/-- The gap (seq - last - 1) mod 256; none is formed without a last number (R25). -/
def seqGap (last : Option Nat) (seq : Nat) : Nat :=
  match last with
  | none => 0
  | some l => (seq + 255 - l % 256) % 256

/-- The sequence step (R25). -/
def seqStep (k : Crane) (seq : Nat) (s : State) : State :=
  let g := seqGap (s.lane k).lastSeq seq
  let s1 := if g = 0 then s else count k .seqGaps g s
  s1.setLane k { s1.lane k with lastSeq := some seq }

/-- The pose record an accepted pose gives, its flags debounced against the record before (R26, R27). -/
def poseRecord (old : Option Pose) (i : PoseIn) (at_ : Stamp) : Pose :=
  let flag (f : Pose → Debounced) (bit : Nat) : Debounced :=
    ((old.map f).getD .clear).judge (i.flags.testBit bit)
  { theta := i.theta, r := i.r, h := i.h, speed := i.speed, load := i.load, wind := i.wind,
    newWind := i.flags.testBit 3, seq := i.seq, hookParked := flag (·.hookParked) 0,
    brakeReleased := flag (·.brakeReleased) 1, driveFault := flag (·.driveFault) 2, arrival := at_ }

/-- The pose is written into the Pose Store (R27). -/
def recordPose (k : Crane) (i : PoseIn) (s : State) : State :=
  s.setPose k (some (poseRecord (s.pose k) i s.stamp))

/-- The sync run after a pose, judged against the last sequence number as it stood before (R28). -/
def nextRun (run : Nat) (last : Option Nat) (seq : Nat) : Nat :=
  if run = 0 then 1 else if last = some ((seq + 255) % 256) then run + 1 else 1

/-- The lane becomes LIVE: Tstale is started and the activity timer restarted (R28, R30, R57). -/
def becomeLive (k : Crane) (s : State) : State := restartTimer k (startTstale k (setLaneState k .live s))

/-- The settling mark of crane k is set (R50). -/
def markSettling (k : Crane) (s : State) : State := s.setArb k { s.arb k with settling := true }

/-- The lane state advances on an accepted pose (R28 to R31, Figure 2-4); `last` is the last sequence number before the
pose. It says whether the lane became LIVE. -/
def advanceLane (k : Crane) (last : Option Nat) (seq : Nat) (s : State) : Bool × State :=
  let l := s.lane k
  match l.state with
  | .syncing =>
    let run := nextRun l.syncRun last seq
    if run < 4 then (false, s.setLane k { l with syncRun := run })
    else
      let s1 := becomeLive k (s.setLane k { l with syncRun := 0 })
      (true, if s1.mode = .operating then markSettling k s1 else s1)
  | .live => (false, startTstale k s)
  | .stale => (true, becomeLive k (s.setLane k { l with tlost := none }))
  | .lost => (false, setLaneState k .syncing (s.setLane k { l with syncRun := 1 }))

/-! ### The blocks of the pose path (R27) -/

/-- The Booking Table acts on a pose (R118, R119, R147, R148): the changes of level in order, then a change of vane state
or of the lane to LIVE, then the load (log 21, log 35). -/
def bookingOnPose (k : Crane) (levels : List WindLevel) (judge : Bool) (s : State) : State :=
  let s1 := levels.foldl (fun t l => if l = .stow then suspend k .wind t else judgeResume k t) s
  noteLoad k (if judge then judgeResume k s1 else s1)

/-- The blocks act on the pose just recorded, in the order of R27; `live` says that the pose made the lane LIVE. -/
def poseBlocks (k : Crane) (live : Bool) (s : State) : State :=
  let judged : Bool := s.mode == .operating && (s.lane k).state == .live
  let startUp := live && judged && (s.arb k).settling
  let s1 := if judged then chartJudge k (overrunCheck k (judgePose k s)) else s
  let (levels, s2) := windOnPose k s1
  let (more, s3) := vaneOnPose k levels startUp s2
  let turned : Bool := (s2.vane k).state != (s3.vane k).state
  pendingCommitStep k (bookingOnPose k (levels ++ more) (turned || live) s3)

/-! ### Forwarding and substitution (R34, R42) -/

/-- The pose is forwarded on C-port k (R42). -/
def forwardPose (k : Crane) (flags : Nat) (s : State) : State :=
  match s.pose k with
  | none => s
  | some p => send (.c k) (forwardedPose s k p flags) s

/-- While the cab is SILENT the lane sends the drive one substituted STOP (R34). -/
def substituteStop (k : Crane) (s : State) : State :=
  if (s.lane k).cab = .silent then
    count k .stopSubstitutes 1 (sendDemand k (.all 0) (.all false) (reasonFlags s k) true s)
  else s

/-- An accepted pose is taken (spec/02, section 2.3). -/
def acceptPose (k : Crane) (f : List Byte) (s : State) : State :=
  let i := poseIn f
  let last := (s.lane k).lastSeq
  let (live, s1) := advanceLane k last i.seq (recordPose k i (seqStep k i.seq s))
  substituteStop k (forwardPose k i.flags (poseBlocks k live s1))

/-! ### An accepted demand (R33, R38, R39) -/

/-- The cab state acts on an accepted demand (R33). -/
def cabStep (k : Crane) (s : State) : State := startTcab k (setCabState k .active s)

/-- The booking step of a demand is taken when its number differs from the lane's last step number (R39). -/
def stepOnDemand (k : Crane) (d : DemandIn) (s : State) : State :=
  if d.step = 0 ∨ (s.lane k).lastStep = some d.stepNumber then s
  else
    let (a, s1) := bookingStep k d.step d.booking s
    s1.setLane k { s1.lane k with lastStep := some d.stepNumber, lastAnswer := some (a, d.booking) }

/-- An accepted demand is taken (R38). -/
def acceptDemand (k : Crane) (f : List Byte) (s : State) : State :=
  let d := demandIn f
  let s1 := stepOnDemand k d (cabStep k s)
  let (decided, s2) := govern k d.speed s1
  reloadTimer k decided.1 (sendDemand k decided.1 decided.2 (reasonFlags s1 k) false s2)

/-! ### Bytes and frames (R23, R171) -/

/-- A frame ended on D-port k is judged (R23). -/
def judgeOnD (k : Crane) (f : List RxByte) (s : State) : State :=
  if laneAccepts poseType k f then acceptPose k (plainBytes f) s else count k .frameErrors 1 s

/-- A frame ended on C-port k is judged (R23). -/
def judgeOnC (k : Crane) (f : List RxByte) (s : State) : State :=
  if laneAccepts demandType k f then acceptDemand k (plainBytes f) s else count k .frameErrors 1 s

/-- The bytes in progress on D-port k become `bs`. -/
def State.setLineD (s : State) (k : Crane) (bs : List RxByte) : State :=
  { s with line := { s.line with d := s.line.d.set k bs } }

/-- The bytes in progress on C-port k become `bs`. -/
def State.setLineC (s : State) (k : Crane) (bs : List RxByte) : State :=
  { s with line := { s.line with c := s.line.c.set k bs } }

/-- A byte arrives on D-port k; the 32nd ends the frame (R171). -/
def arriveD (k : Crane) (s : State) (b : RxByte) : State :=
  let f := s.line.d[k] ++ [b]
  if f.length < 32 then s.setLineD k f else judgeOnD k f (s.setLineD k [])

/-- A byte arrives on C-port k; the 32nd ends the frame (R171). -/
def arriveC (k : Crane) (s : State) (b : RxByte) : State :=
  let f := s.line.c[k] ++ [b]
  if f.length < 32 then s.setLineC k f else judgeOnC k f (s.setLineC k [])

/-- POSE_FRAME: bytes arrive on D-port k (R23, R27, R171). -/
def execPoseFrame (k : Crane) (bytes : List RxByte) (s : State) : Out := .next (bytes.foldl (arriveD k) s)

/-- DEMAND_FRAME: bytes arrive on C-port k (R23, R38, R171). -/
def execDemandFrame (k : Crane) (bytes : List RxByte) (s : State) : Out := .next (bytes.foldl (arriveC k) s)

/-- IDLE_LINE_END (R171): a frame in progress ends short of 32 bytes. On a lane port it is rejected and counted once
(R23); on the S-port it is discarded. With no byte in progress it has no effect. -/
def execIdleLineEnd (p : Port) (s : State) : Out :=
  .next (match p with
    | .c k => if s.line.c[k] = [] then s else count k .frameErrors 1 (s.setLineC k [])
    | .d k => if s.line.d[k] = [] then s else count k .frameErrors 1 (s.setLineD k [])
    | .s => { s with line := { s.line with s := [] } })

/-! ### Lane timers expire -/

/-- Lane k becomes STALE (R29, R30): Tlost starts, the Zone Arbiter freezes and widens in OPERATING (R64, R65), the
Motion Governor clears its marks (R83), an ACTIVE booking is suspended with the reason LANE. -/
def becomeStale (k : Crane) (s : State) : State :=
  let s1 := startTlost k (setLaneState k .stale (s.setLane k { s.lane k with tstale := none }))
  let s2 := if s1.mode = .operating then widen k (freeze k s1) else s1
  suspend k .lane (clearMarks k (leaveLive k s2))

/-- TSTALE_EXPIRY (R29): the timebase has reached the expiry of a running Tstale (log 3). -/
def execTstaleExpiry (k : Crane) (s : State) : Out :=
  .next (match (s.lane k).tstale with
    | none => s
    | some t => if (s.lane k).state = .live then becomeStale k (s.waitUntil t) else s)

/-- Lane k becomes LOST (R31): the crane is HALTED and LANE_LOST is offered to the Capture Buffer. -/
def becomeLost (k : Crane) (s : State) : State :=
  trigger .laneLost (some k) none
    (haltState k (setLaneState k .lost (s.setLane k { s.lane k with tlost := none })))

/-- TLOST_EXPIRY (R31): the timebase has reached the expiry of a running Tlost (log 3). -/
def execTlostExpiry (k : Crane) (s : State) : Out :=
  .next (match (s.lane k).tlost with
    | none => s
    | some t => if (s.lane k).state = .stale then becomeLost k (s.waitUntil t) else s)

/-- The cab state becomes SILENT (R33). -/
def becomeSilent (k : Crane) (s : State) : State := setCabState k .silent (s.setLane k { s.lane k with tcab := none })

/-- TCAB_EXPIRY (R33): the timebase has reached the expiry of a running Tcab (log 3). -/
def execTcabExpiry (k : Crane) (s : State) : Out :=
  .next (match (s.lane k).tcab with
    | none => s
    | some t => if (s.lane k).cab = .active then becomeSilent k (s.waitUntil t) else s)

/-! ### HALT CRANE and RELEASE CRANE (R36, R37) -/

/-- HALT CRANE judged (R37). -/
def haltCrane (tgt : Target) (s : State) : Reply × State :=
  match targetCrane tgt with
  | none => (.no .badTarget, s)
  | some k => (.ok, haltState k s)

/-- HALT_CRANE (R37). -/
def execHaltCrane (tag : Byte) (tgt : Target) (s : State) : Out :=
  .next (answer .haltCrane tag (haltCrane tgt s))

/-- RELEASE CRANE judged (R36). -/
def releaseCrane (tgt : Target) (s : State) : Reply × State :=
  match targetCrane tgt with
  | none => (.no .badTarget, s)
  | some k =>
    if !cranePresent s k then (.no .badTarget, s)
    else if s.mode = .config then (.no .badState, s)
    else if (s.lane k).state ≠ .live then (.no .badState, s)
    else match overlapZones s k (footprint s k) with
    | z :: _ => (.refused .conflict 0 none (some z), s)
    | [] => (.ok, runState k s)

/-- RELEASE_CRANE (R36). -/
def execReleaseCrane (tag : Byte) (tgt : Target) (s : State) : Out :=
  .next (answer .releaseCrane tag (releaseCrane tgt s))

end Sys2Proof.Machine
end

