-- ==== Sys2Proof/Machine/Recording.lean ====
section
/-! DEFINITION. Counter transfers (R154), the pace timer with QUEUE_OVERFLOW (R156, R157), and the requests SNAPSHOT
COUNTERS, SET REPORTING and TRIGGER CAPTURE (R158, R160, R170). -/

namespace Sys2Proof.Machine

/-! ### Transfers (R154) -/

/-- Crane k's counters and markers go to its counter report record with the stamp, and are cleared (R154). -/
def transferCrane (s : State) (k : Crane) : State :=
  let r := s.recorder
  s.setRecorder { r with reports := r.reports.set k { values := r.counters[k], stamp := some s.stamp },
                         counters := r.counters.set k (Vector.replicate 9 .zero) }

/-- A transfer of one crane, with its COUNTERS_READY (R154). -/
def transferOne (k : Crane) (s : State) : State :=
  offer { kind := .countersReady, crane := some k, value := craneNum k } (transferCrane s k)

/-- A transfer of all cranes, with a single COUNTERS_READY of value ALL (R154). -/
def transferAll (s : State) : State :=
  offer { kind := .countersReady, value := allCode } (allCranes.foldl transferCrane s)

/-- TRANSFER_INTERVAL_EXPIRY (R154): the timebase has reached the expiry of the transfer interval timer, which runs on
for the next interval (log 3). -/
def execTransferIntervalExpiry (s : State) : Out :=
  .next (match s.recorder.transferTimer with
    | none => s
    | some t =>
      let s1 := s.waitUntil t
      transferAll (s1.setRecorder
        { s1.recorder with transferTimer := some (t + 1000 * s1.recorder.settings.interval) }))

/-! ### Sending reports (R156, R157) -/

/-- The period of the pace timer in milliseconds, ⌊1,000 / pace⌋ (R157). -/
def pacePeriod (pace : Nat) : Nat := 1000 / pace

/-- The lost reports enter the queue as a QUEUE_OVERFLOW report when an entry leaves it (R156). -/
def noteOverflow (s : State) : State :=
  let r := s.recorder
  if r.overflow = 0 then s
  else
    let e : Report := { kind := .queueOverflow, crane := none, zone := none, booking := none, value := r.overflow,
                        count := 1, first := s.stamp, last := s.stamp }
    let merge (q : Report) : Report :=
      if q.kind = .queueOverflow then
        { q with value := min 65535 (q.value + r.overflow), count := min 255 (q.count + 1), last := s.stamp }
      else q
    let queue := if r.queue.any (fun q => q.kind == .queueOverflow) then r.queue.map merge else e :: r.queue
    s.setRecorder { r with queue := queue, overflow := 0 }

/-- The entry at the head of the queue is removed and sent as one report frame (R157). -/
def sendHead (s : State) : State :=
  match s.recorder.queue with
  | [] => s
  | e :: es => send .s (reportBytes e) (noteOverflow (s.setRecorder { s.recorder with queue := es }))

/-- PACE_TIMER_EXPIRY (R157): the timebase has reached the expiry of the pace timer, which restarts (log 3). -/
def execPaceTimerExpiry (s : State) : Out :=
  .next (
    let t := s.recorder.paceTimer
    let s1 := s.waitUntil t
    sendHead (s1.setRecorder { s1.recorder with paceTimer := t + pacePeriod s1.recorder.settings.pace }))

/-! ### Requests -/

/-- SNAPSHOT COUNTERS judged (R170). -/
def snapshotCounters (tgt : Target) (s : State) : Reply × State :=
  if targetIsAll tgt then (.ok, transferAll s)
  else match targetCrane tgt with
  | none => (.no .badTarget, s)
  | some k => (.ok, transferOne k s)

/-- SNAPSHOT_COUNTERS (R170). -/
def execSnapshotCounters (tag : Byte) (tgt : Target) (s : State) : Out :=
  .next (answer .snapshotCounters tag (snapshotCounters tgt s))

/-- The settings take the values carried; both timers start in this event, or the transfer timer stops at interval 0
(R158, R170). -/
def takeSettings (c : Settings) (s : State) : State :=
  s.setRecorder { s.recorder with
    settings := c, paceTimer := s.now + pacePeriod c.pace,
    transferTimer := if c.interval = 0 then none else some (s.now + 1000 * c.interval) }

/-- SET REPORTING judged (R170). -/
def setReporting (tgt : Target) (c : Settings) (s : State) : Reply × State :=
  if !targetIsSite tgt then (.no .badTarget, s)
  else if within 1 200 c.pace && within 0 3600 c.interval then (.ok, takeSettings c s)
  else (.no .range, s)

/-- SET_REPORTING (R170). -/
def execSetReporting (tag : Byte) (tgt : Target) (c : Settings) (s : State) : Out :=
  .next (answer .setReporting tag (setReporting tgt c s))

/-- TRIGGER CAPTURE judged (R160): KEPT when the trigger fills the buffer, MISSED when it finds it full. -/
def triggerCapture (tgt : Target) (s : State) : Reply × State :=
  if !targetIsSite tgt then (.no .badTarget, s)
  else if !s.recorder.settings.triggers.contains .supervisor then (.no .notPermitted, s)
  else
    (.done [byte (if s.recorder.capture.isNone then keptCode else missedCode)], trigger .supervisor none none s)

/-- TRIGGER_CAPTURE (R160). -/
def execTriggerCapture (tag : Byte) (tgt : Target) (s : State) : Out :=
  .next (answer .triggerCapture tag (triggerCapture tgt s))

end Sys2Proof.Machine
end

