-- ==== Sys2Proof/Machine/Clock.lean ====
section
/-! DEFINITION. The site clock (R167), the expiries SET SITE TIME takes (R76, R136, R168), and the timed events that are
due (log 2, log 4). -/

namespace Sys2Proof.Machine

/-! ### The site second (R167) -/

/-- The greatest site time. -/
def lastSiteTime : Nat := 4294967295

/-- SITE_SECOND (R167): the timebase has reached the second start plus 1,000 ms (log 3). -/
def execSiteSecond (s : State) : Out :=
  .next (
    let t := s.clock.secondStart + 1000
    { s.waitUntil t with clock := ⟨min lastSiteTime (s.clock.siteTime + 1), t⟩ })

/-! ### Expiry instants of site time -/

/-- A pending expiry of site time (R167): a window event, an override expiry or a grant expiry. -/
inductive SiteDue where
  | override (z : Zone)
  | grant (k : Crane) (z : Zone)
  | windowOpen (id : Nat)
  | windowClose (id : Nat)
  deriving DecidableEq, Repr

/-- The pending window event of a booking with its instant (R135). -/
def windowDue (b : Booking) : Option (Nat × SiteDue) :=
  if b.state = .logged then some (b.opens, .windowOpen b.id)
  else if closePending b then some (b.closes, .windowClose b.id)
  else none

/-- Every pending expiry with its instant. -/
def siteDues (s : State) : List (Nat × SiteDue) :=
  (allZones.filterMap fun z => (s.perm z).expiry.map fun t => (t, SiteDue.override z))
    ++ (s.access.grants.filterMap fun g => g.expiry.map fun t => (t, SiteDue.grant g.crane g.zone))
    ++ s.bookings.filterMap windowDue

/-- One expiry is taken whole (R71, R75, R135). -/
def takeSiteDue (s : State) : SiteDue → State
  | .override z => expireOverride z s
  | .grant k z =>
    match findGrant s k z with
    | none => s
    | some g => expireGrant g s
  | .windowOpen id => openWindow id s
  | .windowClose id =>
    match findBooking s id with
    | none => s
    | some b => closeWindow b s

/-- The pending expiries of the earliest instant at or before `t` (R168; R76 and R136 say "at or before"). -/
def earliestDues (t : Nat) (s : State) : List SiteDue :=
  let ds := (siteDues s).filter fun d => d.1 ≤ t
  (ds.filter fun d => ds.all fun e => d.1 ≤ e.1).map (·.2)

/-- One of several that share an instant: either order is allowed, so the choice is free (R76, R135; log 4). -/
def chooseDue {α : Type} (s : State) (ds : List α) : Option α :=
  match ds with
  | [] => none
  | [d] => some d
  | d :: e :: rest => (d :: e :: rest)[Config.dueChoice s.freeCount % (rest.length + 2)]?

/-- The expiries up to `t` are taken in ascending order of instant, each whole (R168). `fuel` bounds their number. -/
def takeDues (t : Nat) : Nat → State → State
  | 0, s => s
  | fuel + 1, s =>
    match chooseDue s (earliestDues t s) with
    | none => s
    | some d => takeDues t fuel (takeSiteDue { s with freeCount := s.freeCount + 1 } d)

/-- As many expiries as can be pending and follow from one another: an override to a zone, an expiry to a grant, an open
and a close event to a booking. -/
def duesBound (s : State) : Nat := 64 + s.access.grants.length + 2 * s.bookings.length

/-- SET SITE TIME judged (R168): site time stays as it was while the expiries are taken (log 20). -/
def setSiteTime (tgt : Target) (t : Nat) (s : State) : Reply × State :=
  if !targetIsSite tgt then (.no .badTarget, s)
  else
    let s1 := if s.clock.siteTime < t then takeDues t (duesBound s) s else s
    (.ok, { s1 with clock := ⟨t, s1.now⟩ })

/-- SET_SITE_TIME (R168). -/
def execSetSiteTime (tag : Byte) (tgt : Target) (t : Nat) (s : State) : Out :=
  .next (answer .setSiteTime tag (setSiteTime tgt t s))

/-! ### Events that are due (log 2) -/

/-- The instant has been reached. -/
def reached (now : Nat) : Option Nat → Bool
  | none => false
  | some t => t ≤ now

/-- The timer events of crane k that are due. -/
def craneDues (s : State) (k : Crane) : List Instr :=
  let l := s.lane k
  let v := s.vane k
  (if l.state = .live ∧ reached s.now l.tstale = true then [.tstaleExpiry k] else [])
    ++ (if l.state = .stale ∧ reached s.now l.tlost = true then [.tlostExpiry k] else [])
    ++ (if l.cab = .active ∧ reached s.now l.tcab = true then [.tcabExpiry k] else [])
    ++ (if v.state = .preparing ∧ v.blocked = false ∧ reached s.now v.timeout = true then [.vaneTimeout k] else [])

/-- The command of an expiry of site time. -/
def SiteDue.command : SiteDue → Instr
  | .override z => .overrideExpiry z
  | .grant k z => .grantExpiry k z
  | .windowOpen id => .windowOpenEvent id
  | .windowClose id => .windowCloseEvent id

/-- Every timed event that is due at the present instant and site time. -/
def dueEvents (s : State) : List Instr :=
  allCranes.flatMap (craneDues s)
    ++ (allZones.filter (limitReached s)).map .holdLimitExpiry
    ++ (if s.recorder.paceTimer ≤ s.now then [.paceTimerExpiry] else [])
    ++ (if reached s.now s.recorder.transferTimer = true then [.transferIntervalExpiry] else [])
    ++ (if s.clock.secondStart + 1000 ≤ s.now then [.siteSecond] else [])
    ++ ((siteDues s).filter fun d => d.1 ≤ s.clock.siteTime).map (·.2.command)

/-- The timed event the idle coordinator takes next, when one is due (log 2, log 4). -/
def nextDue (s : State) : Option Instr := chooseDue s (dueEvents s)

/-- With nothing due, one millisecond of the timebase passes (log 2). -/
def State.tick (s : State) : State := { s with now := s.now + 1 }

/-- A choice between events that are due has been made. -/
def State.chosen (s : State) : State := { s with freeCount := s.freeCount + 1 }

end Sys2Proof.Machine
end

