-- ==== Sys2Proof/Machine/Modes.lean ====
section
/-! DEFINITION. Power-on, COMMENCE, SITE RESET and CRANE RESTART (R164 to R166, with the reset columns of every block's
figure). -/

namespace Sys2Proof.Machine

/-! ### POWER_ON -/

/-- POWER_ON: every block takes its power-on values (the power-on columns of Figures 1-1, 2-2, 3-3, 4-1, 5-2, 6-1, 7-2,
9-2, 9-5; R43, R72, R131, R151, R160, R163, R167, R173). The model's own fields stay (log 6). -/
def execPowerOn (s : State) : Out :=
  .next { State.reset with pending := s.pending, sent := s.sent, freeCount := s.freeCount }

/-! ### COMMENCE (R164) -/

/-- The monitor of a present crane is initialised and becomes RUNNING (R103, R164 step 2). -/
def startMonitor (s : State) (k : Crane) : State := if cranePresent s k then (initialise k true s).2 else s

/-- A present crane's control state becomes RUN (R35, R164 step 4). -/
def runPresent (s : State) (k : Crane) : State := if cranePresent s k then setControl k .run s else s

/-- What COMMENCE does when the site image passes (R164 steps 1 to 6). Steps 4 and 6 give no order among the cranes: they
become RUN, and their SUSPENDED bookings are judged (R147), in ascending crane number (DESIGN CHOICE, log 45). -/
def startOperating (s : State) : State :=
  let s1 := allCranes.foldl startMonitor { s with mode := .operating }
  let s2 := allCranes.foldl (fun t k => markSettling k t) s1
  let s3 := allCranes.foldl runPresent s2
  let s4 := allCranes.foldl startUpAtCommence s3
  allCranes.foldl (fun t k => judgeResume k t) s4

/-- COMMENCE judged (R164). -/
def commence (tgt : Target) (s : State) : Reply × State :=
  if !targetIsSite tgt then (.no .badTarget, s)
  else if s.mode = .operating then (.no .badState, s)
  else match judgeImage s with
  | some why => (why, s)
  | none => (.ok, startOperating s)

/-- COMMENCE (R164). -/
def execCommence (tag : Byte) (tgt : Target) (s : State) : Out := .next (answer .commence tag (commence tgt s))

/-! ### SITE RESET (R165) -/

/-- Step 1: mode, staging areas, pending commits and tags (Figure 1-1, R163). -/
def resetSite (s : State) : State :=
  { s with
    mode := .config
    site := { s.site with staging := Vector.replicate 8 .empty, zoneStaging := Vector.replicate 4 none,
                          structural := Vector.replicate 8 none, policyCommit := Vector.replicate 8 none }
    mgmt := { s.mgmt with structuralTag := Vector.replicate 8 none, policyTag := Vector.replicate 8 none } }

/-- Steps 2 to 6: lanes, poses, zone records, permissions, governors, monitors, vanes. The reports these changes raise
are emptied in step 8, so none is offered here. -/
def resetBlocks (s : State) : State :=
  { s with
    lanes := Vector.replicate 8 .reset
    poses := Vector.replicate 8 none
    air := .reset s.now
    access := { perms := Vector.ofFn fun z => { current := basePerms s z, override := false, expiry := none },
                grants := [] }
    gov := Vector.replicate 8 .reset
    winds := Vector.replicate 8 (.initial false)
    vanes := Vector.replicate 8 .reset }

/-- Step 8: counters, counter report records, transfer timer, queue, overflow count and capture (Figure 9-2, R158,
R160). The settings and the pace timer are kept. -/
def resetRecorder (s : State) : State :=
  s.setRecorder { s.recorder with
    counters := Vector.replicate 8 (Vector.replicate 9 .zero)
    reports := Vector.replicate 8 .reset
    transferTimer := if s.recorder.settings.interval = 0 then none
      else some (s.now + 1000 * s.recorder.settings.interval)
    queue := [], overflow := 0, capture := none, missed := 0 }

/-- SITE RESET judged (R165). The assembly of request frames stays as it stands (DEDUCED, log 47). -/
def siteReset (tgt : Target) (s : State) : Reply × State :=
  if !targetIsSite tgt then (.no .badTarget, s)
  else
    let s1 := resetBlocks (resetSite s)
    (.ok, resetRecorder (allCranes.foldl (fun t k => suspend k .reset t) s1))

/-- SITE_RESET (R165). -/
def execSiteReset (tag : Byte) (tgt : Target) (s : State) : Out := .next (answer .siteReset tag (siteReset tgt s))

/-! ### CRANE RESTART (R166) -/

/-- Step 1: Lane Interface k takes its restart values, its cab state, Tcab and outgoing sequence number kept; the pose
record is emptied (Figure 2-2, R27). -/
def restartLane (k : Crane) (s : State) : State :=
  let s1 := setControl k .halted (setLaneState k .syncing s)
  (s1.setLane k { Lane.reset with cab := (s1.lane k).cab, tcab := (s1.lane k).tcab, outSeq := (s1.lane k).outSeq }).setPose
    k none

/-- Step 7: crane k's live counters and markers are cleared (Figure 9-2). -/
def clearCounters (k : Crane) (s : State) : State :=
  s.setRecorder { s.recorder with counters := s.recorder.counters.set k (Vector.replicate 9 .zero) }

/-- What CRANE RESTART does to crane k (R166). The changes of wind level and vane state are handed to the Booking Table,
which finds the lane SYNCING and resumes nothing (R147). -/
def restart (k : Crane) (s : State) : State :=
  let s1 := restartArbiter k (restartLane k s)
  let s2 := setVaneRec k .reset (s1.setGov k .reset)
  let s3 := (initialise k (s2.mode == .operating && cranePresent s2 k) s2).2
  clearCounters k (suspend k .lane s3)

/-- CRANE RESTART judged (R166). -/
def craneRestart (tgt : Target) (s : State) : Reply × State :=
  match targetCrane tgt with
  | none => (.no .badTarget, s)
  | some k => (.ok, restart k s)

/-- CRANE_RESTART (R166). -/
def execCraneRestart (tag : Byte) (tgt : Target) (s : State) : Out :=
  .next (answer .craneRestart tag (craneRestart tgt s))

end Sys2Proof.Machine
end

