-- ==== Sys2Proof/Machine/Reads.lean ====
section
/-! DEFINITION. The read requests (R169): the data of each part, in the order the rule or its figure lists the items, with
the widths of R173 and the codes of R174. Where R173 and R174 leave a layout open, log 13 says what the model does. -/

namespace Sys2Proof.Machine

/-! ### Items -/

/-- A one-byte item. -/
def b1 (n : Nat) : List Byte := [byte n]

/-- A speed: two bytes, two's complement. -/
def speedBytes (v : Int) : List Byte := be2 (twos 16 v)

/-- A value for each axis, slew, trolley, hoist. -/
def axisBytes {α : Type} (f : α → List Byte) (p : PerAxis α) : List Byte := f p.slew ++ f p.trolley ++ f p.hoist

/-- An optional zone. -/
def optZone (z : Option Zone) : List Byte := optField 1 (fun z => b1 (zoneNum z)) z

/-- An optional crane. -/
def optCrane (k : Option Crane) : List Byte := optField 1 (fun k => b1 (craneNum k)) k

/-- A debounced flag with its candidate mark (R26). -/
def debouncedBytes (d : Debounced) : List Byte := flagByte d.value ++ flagByte d.candidate

/-- A pose record (R27): 30 bytes, its sequence number in one byte (DESIGN CHOICE, log 13). -/
def poseBytes (p : Pose) : List Byte :=
  be2 p.theta ++ be2 p.r ++ be2 p.h ++ axisBytes speedBytes p.speed ++ be2 p.load ++ be2 p.wind ++ flagByte p.newWind
    ++ b1 p.seq ++ debouncedBytes p.hookParked ++ debouncedBytes p.brakeReleased ++ debouncedBytes p.driveFault
    ++ stampBytes p.arrival

/-- A pose record or the empty mark. -/
def optPose (p : Option Pose) : List Byte := optField 30 poseBytes p

/-! ### READ CRANE (Figure 10-4) -/

/-- Part 0. The three last clamp flags share one byte, bits 0 to 2 as in the lane frames (Figures 11-2, 11-5); for read data
the spec gives them no layout, and for a step number and a sequence number no width, here one byte (DESIGN CHOICE, log 13). -/
def cranePart0 (s : State) (k : Crane) : List Byte :=
  let l := s.lane k
  b1 (modeCode s.mode) ++ flagByte (cranePresent s k) ++ b1 (laneCode l.state) ++ b1 l.syncRun ++ b1 (cabCode l.cab)
    ++ b1 (controlCode l.control) ++ optField 1 b1 l.lastStep
    ++ optField 3 (fun a => b1 (answerCode a.1) ++ be2 a.2) l.lastAnswer ++ b1 (flagSet (clampBits l.clamps))
    ++ b1 l.outSeq

/-- Part 2: the zones HELD by the crane, SWEPT for it, and pending for it. -/
def cranePart2 (s : State) (k : Crane) : List Byte :=
  zoneSet (fun z => isHeldBy s k z) ++ zoneSet (fun z => (s.zone z).sweptFor == some k)
    ++ zoneSet (fun z => (s.zone z).sweepPending == some k)

/-- Part 3: the Zone Arbiter record (Figure 3-3). -/
def cranePart3 (s : State) (k : Crane) : List Byte :=
  let a := s.arb k
  optZone (a.motionWait.map (·.zone)) ++ optZone a.reservation ++ be6 a.lastReload ++ b1 (axisCode a.reloadCause)
    ++ optZone a.yieldZone ++ zoneSet (fun z => a.overlaps.contains z) ++ flagByte a.settling

/-- Part 4: speeds and marks (Figure 5-2). -/
def cranePart4 (s : State) (k : Crane) : List Byte :=
  let g := s.govRec k
  axisBytes speedBytes g.requested ++ axisBytes speedBytes g.output ++ axisBytes (optField 2 be2) g.permitted
    ++ b1 (chartMarkCode g.chartMark) ++ flagByte g.overrunMark

/-- The code of a cause: the lowest code of its items, which for a zone cause is the lowest zone (Figure 11-9; log 18). -/
def causesCode (cs : List Cause) : Nat :=
  match cs.map causeCode with
  | [] => 0
  | c :: rest => rest.foldl min c

/-- A boundary: d, absent for a barred direction, and the cause. -/
def boundaryBytes (b : Boundary) : List Byte :=
  optField 4 (fun d => be4 (twos 32 d)) b.dist ++ b1 (causesCode b.causes)

/-- Part 5: the boundary of each axis. -/
def cranePart5 (s : State) (k : Crane) : List Byte := axisBytes (optField 6 boundaryBytes) (s.govRec k).boundary

/-- Part 6: the Wind Monitor record (Figure 6-1), with the gust and the number of samples for the window. -/
def cranePart6 (s : State) (k : Crane) : List Byte :=
  let w := s.wind k
  b1 (if w.running then 1 else 0) ++ b1 (windCode w.level) ++ optField 2 be2 w.last ++ optField 2 be2 w.pending
    ++ be2 (gustOf w.window) ++ b1 w.window.length ++ optField 2 be2 w.mean ++ optField 2 be2 w.figure
    ++ b1 w.raiseAlert ++ b1 w.raiseHold ++ b1 w.raiseStow ++ be2 w.clearCount ++ b1 w.faultRun
    ++ flagByte w.faultMark

/-- Presence of the active tables, as a flag set (Figure 11-9). -/
def presenceSet (s : State) (k : Crane) : Nat :=
  flagSet [(s.profile k).isSome, (s.map k).isSome, (s.chart k).isSome, (s.policy k).isSome, s.site.zoneTable.isSome]

/-- Completeness of the staging slots, as a flag set (R10, Figure 11-9). -/
def stagingSet (s : State) (k : Crane) : Nat :=
  let c := s.staging k
  flagSet [c.profile.isSome, (stagedMap c).isSome, c.chart.isSome, c.policy.isSome, (stagedZoneTable s).isSome]

/-- Part 7. -/
def cranePart7 (s : State) (k : Crane) : List Byte :=
  let v := s.vane k
  b1 (vaneCode v.state) ++ optField 6 be6 v.start ++ optField 6 be6 v.timeout ++ flagByte v.blocked
    ++ b1 (sweepPendingFor s k).length ++ optField 2 be2 ((openLift s k).map (·.id)) ++ b1 (presenceSet s k)
    ++ b1 (stagingSet s k)
    ++ optField 2 (fun c => b1 (((s.mgmt.structuralTag[k]).map (·.toNat)).getD 0) ++ flagByte c.blocked)
        (s.site.structural[k])
    ++ optField 1 (fun _ => b1 (((s.mgmt.policyTag[k]).map (·.toNat)).getD 0)) (s.site.policyCommit[k])

/-- The data of a part of READ CRANE; none for a part outside 0 to 7. -/
def craneData (s : State) (k : Crane) (part : Nat) : List Byte :=
  match part with
  | 0 => cranePart0 s k
  | 1 => optPose (s.pose k)
  | 2 => cranePart2 s k
  | 3 => cranePart3 s k
  | 4 => cranePart4 s k
  | 5 => cranePart5 s k
  | 6 => cranePart6 s k
  | 7 => cranePart7 s k
  | _ => []

/-- READ CRANE judged (R169): the sort of the target (R161), the part, then the crane number (log 33). -/
def readCrane (tgt : Target) (part : Nat) (s : State) : Reply :=
  if tgt.sort ≠ 1 then .no .badTarget
  else if 7 < part then .no .range
  else match targetCrane tgt with
  | none => .no .badTarget
  | some k => .done (craneData s k part)

/-- READ_CRANE (R169). -/
def execReadCrane (tag : Byte) (tgt : Target) (part : Nat) (s : State) : Out :=
  .next (answerRead .readCrane tag (readCrane tgt part s, s))

/-! ### READ ZONE -/

/-- The static record of a zone after its present flag. -/
def staticBytes (z : ZoneStatic) : List Byte := be2 z.clearHeight ++ b1 (permCode z.base) ++ be2 z.holdLimit

/-- The static record of a present zone in the active zone table. -/
def staticOf (s : State) (z : Zone) : Option ZoneStatic :=
  match s.site.zoneTable with
  | none => none
  | some t => if t[z].present then some t[z] else none

/-- A queue entry: crane, class, use. -/
def entryBytes (e : Entry) : List Byte := b1 (craneNum e.crane) ++ b1 (classCode e.cls) ++ b1 (useCode e.use)

/-- A list: a count byte and its greatest number of entries, each `width` bytes (R173). -/
def listBytes {α : Type} (most width : Nat) (f : α → List Byte) (l : List α) : List Byte :=
  b1 l.length ++ padTo (most * width) (l.flatMap f)

/-- The data of READ ZONE: static record, dynamic record (Figure 3-1), permission items (Figure 4-1). -/
def zoneData (s : State) (z : Zone) : List Byte :=
  let r := s.zone z
  let p := s.perm z
  optField 5 staticBytes (staticOf s z)
    ++ b1 (zoneStateCode r.st) ++ optCrane r.holder ++ optField 1 (fun h => b1 (holdCode h)) r.kind
    ++ optField 6 be6 r.taken ++ flagByte r.vacate ++ optCrane r.sweepPending ++ listBytes 7 3 entryBytes r.queue
    ++ b1 (permCode p.current) ++ flagByte p.override ++ optField 4 be4 p.expiry

/-- READ ZONE judged (R169). -/
def readZone (tgt : Target) (s : State) : Reply :=
  match targetZone tgt with
  | none => .no .badTarget
  | some z => .done (zoneData s z)

/-- READ_ZONE (R169). -/
def execReadZone (tag : Byte) (tgt : Target) (s : State) : Out :=
  .next (answerRead .readZone tag (readZone tgt s, s))

/-! ### READ BOOKING -/

/-- Part 0: what BOOK LIFT set. -/
def bookingPart0 (b : Booking) : List Byte :=
  b1 (craneNum b.crane) ++ be4 b.opens ++ be4 b.closes ++ be2 b.load ++ b1 b.pickSector ++ be2 b.pickRadius
    ++ b1 b.setSector ++ be2 b.setRadius ++ listBytes 6 1 (fun z => b1 (zoneNum z)) b.route

/-- Part 1: what the lift has come to. -/
def bookingPart1 (b : Booking) : List Byte :=
  let o := b.outcome
  b1 (bookingCode b.state) ++ b1 b.leg ++ flagByte b.overtime ++ optField 1 (fun r => b1 (suspendCode r)) b.reason
    ++ b1 b.suspensions ++ optField 4 be4 o.beginTime ++ optField 4 be4 o.endTime ++ optField 2 be2 o.maxLoad
    ++ optField 2 be2 o.intrusions ++ optField 1 b1 o.chartOverruns ++ optField 2 be2 o.loadAbove

/-- READ BOOKING judged (R169). -/
def readBooking (tgt : Target) (part : Nat) (s : State) : Reply :=
  if tgt.sort ≠ 3 then .no .badTarget
  else if 1 < part then .no .range
  else match (targetBooking tgt).bind (findBooking s) with
  | none => .no .badTarget
  | some b => .done (if part = 0 then bookingPart0 b else bookingPart1 b)

/-- READ_BOOKING (R169). -/
def execReadBooking (tag : Byte) (tgt : Target) (part : Nat) (s : State) : Out :=
  .next (answerRead .readBooking tag (readBooking tgt part s, s))

/-! ### READ COUNTERS -/

/-- Part 0: the nine values of the counter report record (R153). -/
def counterValues (r : CounterReport) : List Byte := r.values.toList.flatMap fun c => be2 c.value

/-- Part 1: the nine markers and the stamp. -/
def counterMarkers (r : CounterReport) : List Byte :=
  (r.values.toList.flatMap fun c => flagByte c.marker) ++ optField 6 stampBytes r.stamp

/-- READ COUNTERS judged (R153, R169). -/
def readCounters (tgt : Target) (part : Nat) (s : State) : Reply :=
  if tgt.sort ≠ 1 then .no .badTarget
  else if 1 < part then .no .range
  else match targetCrane tgt with
  | none => .no .badTarget
  | some k =>
    let r := s.recorder.reports[k]
    .done (if part = 0 then counterValues r else counterMarkers r)

/-- READ_COUNTERS (R153, R169). -/
def execReadCounters (tag : Byte) (tgt : Target) (part : Nat) (s : State) : Out :=
  .next (answerRead .readCounters tag (readCounters tgt part s, s))

/-! ### READ CAPTURE (R160) -/

/-- The capture's own items: site time, trigger kind, crane and zone. -/
def captureHead (c : Capture) : List Byte :=
  stampBytes c.stamp ++ b1 (triggerCode c.trigger) ++ optCrane c.crane ++ optZone c.zone

/-- What a capture holds of one crane. -/
def snapshotBytes (n : Snapshot) : List Byte :=
  optPose n.pose ++ b1 (laneCode n.lane) ++ b1 (windCode n.wind) ++ b1 (vaneCode n.vane)

/-- The data of a part of READ CAPTURE: part 0 the capture's own items and the missed count, part n the record of crane
n; or the empty indication. -/
def captureData (s : State) (part : Nat) : List Byte :=
  let r := s.recorder
  match craneOf? part with
  | none => optField 11 captureHead r.capture ++ b1 r.missed
  | some k => optField 34 (fun c => snapshotBytes c.snapshots[k]) r.capture

/-- Part 0 empties a full buffer and sets the missed count to 0 (R160). -/
def emptyCapture (s : State) : State :=
  match s.recorder.capture with
  | none => s
  | some _ => s.setRecorder { s.recorder with capture := none, missed := 0 }

/-- READ CAPTURE judged (R160, R169). -/
def readCapture (tgt : Target) (part : Nat) (s : State) : Reply × State :=
  if !targetIsSite tgt then (.no .badTarget, s)
  else if 8 < part then (.no .range, s)
  else (.done (captureData s part), if part = 0 then emptyCapture s else s)

/-- READ_CAPTURE (R160, R169). -/
def execReadCapture (tag : Byte) (tgt : Target) (part : Nat) (s : State) : Out :=
  .next (answerRead .readCapture tag (readCapture tgt part s))

end Sys2Proof.Machine
end

