-- ==== Sys2Proof/Machine/Management.lean ====
section
/-! DEFINITION. The Management Interpreter (spec/10, R161; spec/11, R173): the fields of each request's payload, running a
request, the assembly of trains, and the bytes that arrive on the S-port. -/

namespace Sys2Proof.Machine

/-! ### Payloads (R173): the fields in the order the request's rule names them -/

/-- The four fields of one axis in Figure 1-2: Vcap, deceleration, reaction time, clearance. R173 names no width for a
deceleration, a reaction time or a clearance in dm; each is two bytes (DESIGN CHOICE, log 41). -/
def readAxis (c : Cursor) : AxisDyn × Cursor :=
  let (v, c1) := c.num 2
  let (a, c2) := c1.num 2
  let (t, c3) := c2.num 2
  let (m, c4) := c3.num 2
  (⟨v, a, t, m⟩, c4)

/-- A profile in the order of Figure 1-2. -/
def readProfile (c : Cursor) : ProfileSeg × Cursor :=
  let (present, c0) := c.flag
  let (slew, c1) := readAxis c0
  let (rmin, c2) := c1.num 2
  let (rmax, c3) := c2.num 2
  let (trolley, c4) := readAxis c3
  let (stow, c5) := c4.num 2
  let (top, c6) := c5.num 2
  let (hoist, c7) := readAxis c6
  let (hook, c8) := c7.num 2
  let (a1, c9) := c8.num 1
  let (a2, c10) := c9.num 1
  let (a3, c11) := c10.num 1
  let (tstale, c12) := c11.opt 2
  let (tlost, c13) := c12.opt 2
  let (tcab, c14) := c13.opt 2
  let (vane, c15) := c14.num 2
  ({ present := present, dyn := ⟨slew, trolley, hoist⟩, rmin := rmin, rmax := rmax, stowRadius := stow,
     topHeight := top, emptyHook := hook, activity := ⟨a1, a2, a3⟩, tstale := tstale, tlost := tlost, tcab := tcab,
     vaneTimeout := vane }, c15)

/-- A claim: zone, class, rlo, rhi. -/
def readClaim (c : Cursor) : RawClaim × Cursor :=
  let (zone, c1) := c.num 1
  let (cls, c2) := c1.num 1
  let (rlo, c3) := c2.num 2
  let (rhi, c4) := c3.num 2
  (⟨zone, cls, rlo, rhi⟩, c4)

/-- The claims of a sector: a count and four entries. -/
def readSector (c : Cursor) : RawSector × Cursor :=
  let (n, c1) := c.num 1
  let (cs, c2) := Cursor.many readClaim 4 c1
  (⟨n, cs⟩, c2)

/-- A chart entry. -/
def readChartEntry (c : Cursor) : ChartEntry × Cursor :=
  let (b, c1) := c.num 2
  let (r, c2) := c1.num 2
  (⟨b, r⟩, c2)

/-- A chart: a count and sixteen entries. -/
def readChart (c : Cursor) : RawChart × Cursor :=
  let (n, c1) := c.num 1
  let (es, c2) := Cursor.many readChartEntry 16 c1
  (⟨n, es⟩, c2)

/-- A policy in the order of Figure 1-3. The figure names the six thresholds in one row; they are read as on and off of
ALERT, of HOLD, of STOW (DESIGN CHOICE, log 42). R173 names no width for the mean shift, the gust weight and the jump limit;
they are one, one and two bytes (DESIGN CHOICE, log 41). -/
def readPolicy (c : Cursor) : Policy × Cursor :=
  let (ng, c1) := c.num 1
  let (k, c2) := c1.num 1
  let (g, c3) := c2.num 1
  let (j, c4) := c3.num 2
  let (f, c5) := c4.num 1
  let (onA, c6) := c5.num 2
  let (offA, c7) := c6.num 2
  let (onH, c8) := c7.num 2
  let (offH, c9) := c8.num 2
  let (onS, c10) := c9.num 2
  let (offS, c11) := c10.num 2
  let (dd, c12) := c11.num 2
  let (dc, c13) := c12.num 2
  let (da, c14) := c13.num 1
  let (dh, c15) := c14.num 1
  ({ ng := ng, meanShift := k, gustWeight := g, jumpLimit := j, faultRun := f, onAlert := onA, offAlert := offA,
     onHold := onH, offHold := offH, onStow := onS, offStow := offS, declareDwell := dd, clearDwell := dc,
     derateAlert := da, derateHold := dh }, c15)

/-- A zone record: present flag, clear height, base permissions, hold limit (R3). R173 names no width for a hold limit; it is
two bytes (DESIGN CHOICE, log 41). -/
def readZoneStatic (c : Cursor) : ZoneStatic × Cursor :=
  let (present, c1) := c.flag
  let (h, c2) := c1.num 2
  let (p, c3) := c2.num 1
  let (l, c4) := c3.num 2
  (⟨present, h, permSetOf p, l⟩, c4)

/-- A segment's content by its table kind (Figure 11-9). -/
def readSegment (kind : Nat) (c : Cursor) : Segment × Cursor :=
  if kind = 1 then let (p, c1) := readProfile c; (.profile p, c1)
  else if kind = 2 then let (ss, c1) := Cursor.many readSector 16 c; (.reachMap ss, c1)
  else if kind = 3 then let (q, c1) := readChart c; (.loadChart q, c1)
  else if kind = 4 then let (p, c1) := readPolicy c; (.policy p, c1)
  else if kind = 5 then let (zs, c1) := Cursor.many readZoneStatic 16 c; (.zoneTable zs, c1)
  else (.unknown kind, c)

/-- The fields of BOOK LIFT besides the id, in the order of Figure 8-1 (log 8). -/
def readPlan (c : Cursor) : LiftPlan × Cursor :=
  let (crane, c1) := c.num 1
  let (opens, c2) := c1.num 4
  let (closes, c3) := c2.num 4
  let (load, c4) := c3.num 2
  let (ps, c5) := c4.num 1
  let (pr, c6) := c5.num 2
  let (ss, c7) := c6.num 1
  let (sr, c8) := c7.num 2
  let (n, c9) := c8.num 1
  let (route, c10) := Cursor.many (Cursor.num 1) 6 c9
  ({ crane := crane, opens := opens, closes := closes, load := load, pickSector := ps, pickRadius := pr,
     setSector := ss, setRadius := sr, routeCount := n, route := route }, c10)

/-- The state kinds, in the order R155 lists them. -/
def stateKinds : List ReportKind := [.laneState, .cabState, .controlState, .windLevel, .vaneState]

/-- The names whose flag is set. -/
def selected {α : Type} (names : List α) (flags : List Bool) : List α :=
  ((names.zip flags).filter (·.2)).map (·.1)

/-- The reporting settings in the order of R170: enables, edge selections, pace, interval, trigger enables (log 12).
R173 names no width for the pace and the report interval; they are one and two bytes (DESIGN CHOICE, log 41). -/
def readSettings (c : Cursor) : Settings × Cursor :=
  let (en, c1) := Cursor.many Cursor.flag settableKinds.length c
  let (ed, c2) := Cursor.many Cursor.flag stateKinds.length c1
  let (pace, c3) := c2.num 1
  let (interval, c4) := c3.num 2
  let (tr, c5) := Cursor.many Cursor.flag triggerKinds.length c4
  ({ enabled := selected settableKinds en, declareOnly := selected stateKinds ed, pace := pace, interval := interval,
     triggers := selected triggerKinds tr }, c5)

/-! ### Requests -/

/-- The request of a kind number with its payload; none for an unknown kind (Figure 10-1 order, R161).
R173 names no width for a segment number or a part number; each is one byte (DESIGN CHOICE, log 41). -/
def parseRequest (kind : Nat) (tag : Byte) (tgt : Target) (c : Cursor) : Option (Instr × Cursor) :=
  match kind with
  | 1 =>
    let (tk, c1) := c.num 1
    let (seg, c2) := c1.num 1
    let (content, c3) := readSegment tk c2
    some (.loadSegment tag tgt seg content, c3)
  | 2 => let (set, c1) := c.num 1; some (.commit tag tgt (byte set), c1)
  | 3 => some (.commence tag tgt, c)
  | 4 => some (.siteReset tag tgt, c)
  | 5 => some (.craneRestart tag tgt, c)
  | 6 => let (t, c1) := c.num 4; some (.setSiteTime tag tgt t, c1)
  | 7 => some (.haltCrane tag tgt, c)
  | 8 => some (.releaseCrane tag tgt, c)
  | 9 => some (.resumeCrane tag tgt, c)
  | 10 => some (.forceReleaseZone tag tgt, c)
  | 11 =>
    let (mode, c1) := c.num 1
    if mode = 1 then
      let (p, c2) := c1.num 1
      let (e, c3) := c2.opt 4
      some (.setZonePermissions tag tgt mode (permSetOf p) e, c3)
    else some (.setZonePermissions tag tgt mode noPerms none, c1)
  | 12 =>
    let (z, c1) := c.num 1
    let (u, c2) := c1.num 1
    let (e, c3) := c2.opt 4
    some (.grantAccess tag tgt z (permSetOf u) e, c3)
  | 13 => let (z, c1) := c.num 1; some (.revokeAccess tag tgt z, c1)
  | 14 => let (p, c1) := readPlan c; some (.bookLift tag tgt p, c1)
  | 15 => some (.cancelBooking tag tgt, c)
  | 16 => some (.retireBooking tag tgt, c)
  | 17 => let (p, c1) := c.num 1; some (.readCrane tag tgt p, c1)
  | 18 => some (.readZone tag tgt, c)
  | 19 => let (p, c1) := c.num 1; some (.readBooking tag tgt p, c1)
  | 20 => let (p, c1) := c.num 1; some (.readCounters tag tgt p, c1)
  | 21 => let (p, c1) := c.num 1; some (.readCapture tag tgt p, c1)
  | 22 => some (.snapshotCounters tag tgt, c)
  | 23 => let (st, c1) := readSettings c; some (.setReporting tag tgt st, c1)
  | 24 => some (.triggerCapture tag tgt, c)
  | _ => none

/-- A request that has been judged: its kind and tag, what it is answered, and the state after its effect (R161). -/
structure Judged where
  req   : Req
  tag   : Byte
  reply : Reply
  after : State

/-- The judgement of a request of a kind. -/
def judgedAs (q : Req) (tag : Byte) (rs : Reply × State) : Judged := ⟨q, tag, rs.1, rs.2⟩

/-- A request is judged and acted on (R161). A command that is no request is none of the Management Interpreter's. -/
def judgeRequest (i : Instr) (s : State) : Option Judged :=
  match i with
  | .loadSegment tag tgt seg content => some (judgedAs .loadSegment tag (loadSegment tgt seg content s))
  | .commit tag tgt set => some (judgedAs .commit tag (commit tag tgt set s))
  | .commence tag tgt => some (judgedAs .commence tag (commence tgt s))
  | .siteReset tag tgt => some (judgedAs .siteReset tag (siteReset tgt s))
  | .craneRestart tag tgt => some (judgedAs .craneRestart tag (craneRestart tgt s))
  | .setSiteTime tag tgt t => some (judgedAs .setSiteTime tag (setSiteTime tgt t s))
  | .haltCrane tag tgt => some (judgedAs .haltCrane tag (haltCrane tgt s))
  | .releaseCrane tag tgt => some (judgedAs .releaseCrane tag (releaseCrane tgt s))
  | .resumeCrane tag tgt => some (judgedAs .resumeCrane tag (resumeCrane tgt s))
  | .forceReleaseZone tag tgt => some (judgedAs .forceReleaseZone tag (forceReleaseZone tgt s))
  | .setZonePermissions tag tgt mode st e => some (judgedAs .setZonePermissions tag (setZonePermissions tgt mode st e s))
  | .grantAccess tag tgt z u e => some (judgedAs .grantAccess tag (grantAccess tgt z u e s))
  | .revokeAccess tag tgt z => some (judgedAs .revokeAccess tag (revokeAccess tgt z s))
  | .bookLift tag tgt p => some (judgedAs .bookLift tag (bookLift tgt p s))
  | .cancelBooking tag tgt => some (judgedAs .cancelBooking tag (cancelBooking tgt s))
  | .retireBooking tag tgt => some (judgedAs .retireBooking tag (retireBooking tgt s))
  | .readCrane tag tgt part => some ⟨.readCrane, tag, readCrane tgt part s, s⟩
  | .readZone tag tgt => some ⟨.readZone, tag, readZone tgt s, s⟩
  | .readBooking tag tgt part => some ⟨.readBooking, tag, readBooking tgt part s, s⟩
  | .readCounters tag tgt part => some ⟨.readCounters, tag, readCounters tgt part s, s⟩
  | .readCapture tag tgt part => some (judgedAs .readCapture tag (readCapture tgt part s))
  | .snapshotCounters tag tgt => some (judgedAs .snapshotCounters tag (snapshotCounters tgt s))
  | .setReporting tag tgt st => some (judgedAs .setReporting tag (setReporting tgt st s))
  | .triggerCapture tag tgt => some (judgedAs .triggerCapture tag (triggerCapture tgt s))
  | .powerOn => none
  | .poseFrame _ _ => none
  | .demandFrame _ _ => none
  | .idleLineEnd _ => none
  | .managementFrame _ => none
  | .tstaleExpiry _ => none
  | .tlostExpiry _ => none
  | .tcabExpiry _ => none
  | .holdLimitExpiry _ => none
  | .vaneTimeout _ => none
  | .paceTimerExpiry => none
  | .transferIntervalExpiry => none
  | .siteSecond => none
  | .overrideExpiry _ => none
  | .grantExpiry _ _ => none
  | .windowOpenEvent _ => none
  | .windowCloseEvent _ => none

/-- The read requests, whose response is a train (R174). -/
def isRead : Req → Bool
  | .readCrane => true
  | .readZone => true
  | .readBooking => true
  | .readCounters => true
  | .readCapture => true
  | .loadSegment => false
  | .commit => false
  | .commence => false
  | .siteReset => false
  | .craneRestart => false
  | .setSiteTime => false
  | .haltCrane => false
  | .releaseCrane => false
  | .resumeCrane => false
  | .forceReleaseZone => false
  | .setZonePermissions => false
  | .grantAccess => false
  | .revokeAccess => false
  | .bookLift => false
  | .cancelBooking => false
  | .retireBooking => false
  | .snapshotCounters => false
  | .setReporting => false
  | .triggerCapture => false

/-- The response to a judged request is sent (R161, R174). -/
def respond (j : Judged) : State :=
  if isRead j.req then answerRead j.req j.tag (j.reply, j.after) else answer j.req j.tag (j.reply, j.after)

/-- A request is judged, acted on and answered within its event (R161). -/
def runRequest (i : Instr) (s : State) : State :=
  match judgeRequest i s with
  | none => s
  | some j => respond j

/-- A completed request arrives (R173): it is decoded and run; an unknown kind is refused RANGE (R161). -/
def completeRequest (a : Assembly) (s : State) : State :=
  match parseRequest a.kind.toNat a.tag a.tgt ⟨a.parts.flatten, s.freeCount⟩ with
  | none => send .s (responseBytes a.kind a.tag (.no .range)) s
  | some (i, c) => runRequest i { s with freeCount := c.free }

/-! ### The assembly (R173) -/

/-- The assembly of the Management Interpreter becomes `a`. -/
def setAssembly (a : Option Assembly) (s : State) : State := s.setMgmt { s.mgmt with assembly := a }

/-- The target of a request frame (Figure 11-6). -/
def frameTarget (f : List Byte) : Target :=
  ⟨BitVec.ofNat 8 (unsignedAt f 4 1), BitVec.ofNat 16 (unsignedAt f 5 2)⟩

/-- The assembly a frame with an index leads to: index 0 starts a new one, the next expected index with the same kind, tag
and target joins, and any other frame discards frame and assembly (R173). -/
def joinAssembly (old : Option Assembly) (index : Nat) (kind tag : Byte) (tgt : Target) (part : List Byte) :
    Option Assembly :=
  if index = 0 then some ⟨kind, tag, tgt, [part]⟩
  else match old with
  | none => none
  | some a =>
    if index = a.parts.length ∧ kind = a.kind ∧ tag = a.tag ∧ tgt = a.tgt then some { a with parts := a.parts ++ [part] }
    else none

/-- An accepted request frame is taken (R173): the frame with the last mark completes the request. Bits 5 and 6 of byte 3, of
which Figure 11-6 says nothing, are ignored (DEDUCED, log 28). -/
def acceptRequestFrame (f : List Byte) (s : State) : State :=
  let mark := unsignedAt f 3 1
  match joinAssembly s.mgmt.assembly (mark % 32) (byte (unsignedAt f 1 1)) (byte (unsignedAt f 2 1)) (frameTarget f)
      (fieldAt f 7 23) with
  | none => setAssembly none s
  | some a => if mark.testBit 7 then completeRequest a (setAssembly none s) else setAssembly (some a) s

/-- A frame ended on the S-port is judged (R161): any frame that is not accepted is discarded. -/
def judgeOnS (f : List RxByte) (s : State) : State :=
  if requestAccepted f then acceptRequestFrame (plainBytes f) s else s

/-- A byte arrives on the S-port; the 32nd ends the frame (R171). -/
def arriveS (s : State) (b : RxByte) : State :=
  let f := s.line.s ++ [b]
  if f.length < 32 then { s with line := { s.line with s := f } }
  else judgeOnS f { s with line := { s.line with s := [] } }

/-- MANAGEMENT_FRAME: bytes arrive on the S-port (R161, R171, R173). -/
def execManagementFrame (bytes : List RxByte) (s : State) : Out := .next (bytes.foldl arriveS s)

end Sys2Proof.Machine
end

