-- ==== Sys2Proof/Machine/Dispatch.lean ====
section
/-! DEFINITION. The one dispatch: an arm for each command, one direct call of its meaning. -/

namespace Sys2Proof.Machine

def exec (i : Instr) (s : State) : Host.Outcome State Fault Refusal :=
  match i with
  | .powerOn => Sys2Proof.Machine.execPowerOn s
  | .poseFrame k bytes => Sys2Proof.Machine.execPoseFrame k bytes s
  | .demandFrame k bytes => Sys2Proof.Machine.execDemandFrame k bytes s
  | .idleLineEnd p => Sys2Proof.Machine.execIdleLineEnd p s
  | .managementFrame bytes => Sys2Proof.Machine.execManagementFrame bytes s
  | .tstaleExpiry k => Sys2Proof.Machine.execTstaleExpiry k s
  | .tlostExpiry k => Sys2Proof.Machine.execTlostExpiry k s
  | .tcabExpiry k => Sys2Proof.Machine.execTcabExpiry k s
  | .holdLimitExpiry z => Sys2Proof.Machine.execHoldLimitExpiry z s
  | .vaneTimeout k => Sys2Proof.Machine.execVaneTimeout k s
  | .paceTimerExpiry => Sys2Proof.Machine.execPaceTimerExpiry s
  | .transferIntervalExpiry => Sys2Proof.Machine.execTransferIntervalExpiry s
  | .siteSecond => Sys2Proof.Machine.execSiteSecond s
  | .overrideExpiry z => Sys2Proof.Machine.execOverrideExpiry z s
  | .grantExpiry k z => Sys2Proof.Machine.execGrantExpiry k z s
  | .windowOpenEvent id => Sys2Proof.Machine.execWindowOpenEvent id s
  | .windowCloseEvent id => Sys2Proof.Machine.execWindowCloseEvent id s
  | .loadSegment tag tgt seg content => Sys2Proof.Machine.execLoadSegment tag tgt seg content s
  | .commit tag tgt set => Sys2Proof.Machine.execCommit tag tgt set s
  | .commence tag tgt => Sys2Proof.Machine.execCommence tag tgt s
  | .siteReset tag tgt => Sys2Proof.Machine.execSiteReset tag tgt s
  | .craneRestart tag tgt => Sys2Proof.Machine.execCraneRestart tag tgt s
  | .setSiteTime tag tgt t => Sys2Proof.Machine.execSetSiteTime tag tgt t s
  | .haltCrane tag tgt => Sys2Proof.Machine.execHaltCrane tag tgt s
  | .releaseCrane tag tgt => Sys2Proof.Machine.execReleaseCrane tag tgt s
  | .resumeCrane tag tgt => Sys2Proof.Machine.execResumeCrane tag tgt s
  | .forceReleaseZone tag tgt => Sys2Proof.Machine.execForceReleaseZone tag tgt s
  | .setZonePermissions tag tgt mode st e => Sys2Proof.Machine.execSetZonePermissions tag tgt mode st e s
  | .grantAccess tag tgt zone uses e => Sys2Proof.Machine.execGrantAccess tag tgt zone uses e s
  | .revokeAccess tag tgt zone => Sys2Proof.Machine.execRevokeAccess tag tgt zone s
  | .bookLift tag tgt plan => Sys2Proof.Machine.execBookLift tag tgt plan s
  | .cancelBooking tag tgt => Sys2Proof.Machine.execCancelBooking tag tgt s
  | .retireBooking tag tgt => Sys2Proof.Machine.execRetireBooking tag tgt s
  | .readCrane tag tgt part => Sys2Proof.Machine.execReadCrane tag tgt part s
  | .readZone tag tgt => Sys2Proof.Machine.execReadZone tag tgt s
  | .readBooking tag tgt part => Sys2Proof.Machine.execReadBooking tag tgt part s
  | .readCounters tag tgt part => Sys2Proof.Machine.execReadCounters tag tgt part s
  | .readCapture tag tgt part => Sys2Proof.Machine.execReadCapture tag tgt part s
  | .snapshotCounters tag tgt => Sys2Proof.Machine.execSnapshotCounters tag tgt s
  | .setReporting tag tgt st => Sys2Proof.Machine.execSetReporting tag tgt st s
  | .triggerCapture tag tgt => Sys2Proof.Machine.execTriggerCapture tag tgt s

end Sys2Proof.Machine
end

