-- ==== Sys2Proof/Machine/Step.lean ====
section
/-! DEFINITION. One step: the command at the front of the queue, or, on an empty queue, a timed event that is due, or the
passing of one millisecond (log 1, log 2). -/

namespace Sys2Proof.Machine

/-- One step of the coordinator. -/
def step (s : State) : Host.Outcome State Fault Refusal :=
  match s.pending with
  | i :: rest => exec i { s with pending := rest }
  | [] =>
    match nextDue s with
    | some i => exec i s.chosen
    | none => .next s.tick

/-- The command a word spells, if any, put at the front of the queue. -/
def State.withFetchWord (s : State) (nbits w : Nat) : State :=
  match decodeTableWord nbits w with
  | none => s
  | some i => { s with pending := i :: s.pending }

end Sys2Proof.Machine
end

