-- ==== Sys2Proof/Safety.lean ====
section
/-! DEFINITION. What counts as a sound state of the coordinator, in the terms the claims use: one predicate for each kind of
state, taken from what the rules say always holds of it; and the frames a request is answered with. -/

namespace Sys2Proof.Machine

/-! ### Counters, Report Queue, Capture Buffer -/

/-- Two entries of the Report Queue differ in kind or in crane (R155). -/
abbrev Report.apart (a b : Report) : Prop := ¬(a.kind = b.kind ∧ a.crane = b.crane)

/-- Ranges of the counters and of the counts beside the queue, and the shape of the queue (R152, R155, R156, R159): at most
32 entries, no two with the same kind and crane, each with a count of 1 to 255. -/
abbrev Recorder.Sound (r : Recorder) : Prop :=
  (∀ k : Crane, ∀ i : Fin 9, ((r.counters[k])[i]).value ≤ 65535 ∧ (((r.reports[k]).values)[i]).value ≤ 65535)
    ∧ r.queue.length ≤ 32 ∧ r.queue.Pairwise Report.apart ∧ (∀ e ∈ r.queue, 1 ≤ e.count ∧ e.count ≤ 255)
    ∧ r.overflow ≤ 65535 ∧ r.missed ≤ 255

/-! ### Lanes and poses -/

/-- A lane (R22, R28 to R32): Tstale runs in LIVE alone, Tlost in STALE alone, Tcab while the cab is ACTIVE alone; the sync
run is below 4 and 0 outside SYNCING; numbers fit a byte. -/
abbrev Lane.Sound (l : Lane) : Prop :=
  (l.tstale.isSome = true ↔ l.state = .live) ∧ (l.tlost.isSome = true ↔ l.state = .stale)
    ∧ (l.tcab.isSome = true ↔ l.cab = .active)
    ∧ l.syncRun ≤ 3 ∧ (l.state ≠ .syncing → l.syncRun = 0)
    ∧ (∀ n ∈ l.lastSeq, n ≤ 255) ∧ (∀ n ∈ l.lastStep, n ≤ 255) ∧ l.outSeq ≤ 255

/-- A pose record holds saturated values (R27, R172). -/
abbrev Pose.Sound (p : Pose) : Prop :=
  p.theta ≤ 65535 ∧ p.r ≤ 1200 ∧ p.h ≤ 3000 ∧ p.speed.slew.natAbs ≤ 4000 ∧ p.speed.trolley.natAbs ≤ 100
    ∧ p.speed.hoist.natAbs ≤ 200 ∧ p.load ≤ 20000 ∧ (p.wind ≤ 800 ∨ p.wind = 65535) ∧ p.seq ≤ 255
    ∧ p.arrival.ms ≤ 999

/-! ### Zones and grants -/

/-- A zone record (R43, R53, R59): a FREE zone has an empty queue and no sweep-pending crane; only a HELD zone bears a vacate
mark; no crane stands twice in a queue, or in the queue of a zone it holds; sweep-pending does not name the holder. -/
abbrev ZoneRec.Sound (r : ZoneRec) : Prop :=
  (r.st = .free → r.queue = [] ∧ r.sweepPending = none) ∧ (r.heldBy = none → r.vacate = false)
    ∧ (r.queue.map (·.crane)).Nodup ∧ (∀ e ∈ r.queue, r.holder ≠ some e.crane)
    ∧ (∀ c ∈ r.sweepPending, r.holder ≠ some c)

/-- The access grant table (R72): at most 16 entries, no two for the same crane and zone, each granting something. -/
abbrev Access.Sound (a : Access) : Prop :=
  a.grants.length ≤ 16 ∧ (a.grants.Pairwise fun g h => ¬(g.crane = h.crane ∧ g.zone = h.zone))
    ∧ ∀ g ∈ a.grants, g.uses.jib = true ∨ g.uses.load = true

/-! ### Wind -/

/-- The counts a Wind Monitor keeps for a level at or below the current one are zero (R113). -/
abbrev WindRec.Sound (w : WindRec) : Prop :=
  (w.level ≠ .calm → w.raiseAlert = 0) ∧ (w.level = .hold ∨ w.level = .stow → w.raiseHold = 0)
    ∧ (w.level = .stow → w.raiseStow = 0) ∧ (w.level = .calm → w.clearCount = 0)
    ∧ (w.faultMark = true → w.level = .hold ∨ w.level = .stow) ∧ w.faultRun ≤ 255

/-! ### Bookings -/

/-- ACTIVE or SUSPENDED (R42, R145). -/
def Booking.flying (b : Booking) : Bool := b.state == .active || b.state == .suspended

/-- A booking record (R132, Figure 8-1). -/
abbrev Booking.Sound (b : Booking) : Prop :=
  1 ≤ b.id ∧ b.id ≤ 65535 ∧ b.opens < b.closes ∧ b.load ≤ 20000 ∧ 1 ≤ b.route.length ∧ b.route.length ≤ 6
    ∧ b.route.Nodup ∧ b.leg ≤ b.route.length ∧ b.suspensions ≤ 255
    ∧ (b.state = .logged ∨ b.state = .opened → b.leg = 0) ∧ (b.flying = true ∨ b.state = .done → 1 ≤ b.leg)

/-- The Booking Table (R132, R145): at most 32 records, no two with one id, and no two in ACTIVE or SUSPENDED for one
crane. -/
abbrev TableSound (l : List Booking) : Prop :=
  l.length ≤ 32 ∧ (∀ b ∈ l, b.Sound)
    ∧ l.Pairwise (fun a b => a.id ≠ b.id ∧ ¬(a.crane = b.crane ∧ a.flying = true ∧ b.flying = true))

/-- What R145 says of the crane of an ACTIVE booking. -/
def fitToFly (s : State) (k : Crane) : Prop :=
  (s.wind k).level ≠ .stow ∧ (s.vane k).state = .none ∧ (s.lane k).state = .live ∧ (s.lane k).control = .run

/-- Every ACTIVE booking's crane may fly (R145). -/
def ActiveSound (s : State) : Prop := ∀ b ∈ s.bookings, b.state = .active → fitToFly s b.crane

/-- The lifts of the site: a sound table, and every ACTIVE booking with a crane that may fly (R145). -/
def LiftsSound (s : State) : Prop := TableSound s.bookings ∧ ActiveSound s

/-! ### CONFIG -/

/-- What holds in CONFIG (R21, R35, R43, R103, R131, R138): every zone record FREE, every crane HALTED, every monitor IDLE,
every vane state NONE, no lift ACTIVE, no commit pending. -/
def ConfigSound (s : State) : Prop :=
  s.mode = .config →
    (∀ z, s.zone z = .reset) ∧ (∀ k, (s.lane k).control = .halted) ∧ (∀ k, (s.wind k).running = false)
      ∧ (∀ k, s.vane k = .reset) ∧ (∀ b ∈ s.bookings, b.state ≠ .active)
      ∧ (∀ k : Crane, s.site.structural[k] = none ∧ s.site.policyCommit[k] = none)

/-! ### Frames -/

/-- The frame types a port may carry outward (R24, R41, R42, R161, Figure 11-1). -/
def sendsType : Port → Nat → Bool
  | .c _, t => t == poseType
  | .d _, t => t == demandType
  | .s, t => t == responseType || t == reportType

/-- A frame that was sent is 32 bytes long, bears the right check value in its last two, and has a type of its port (R24,
R171). -/
def Sent.Sound (f : Sent) : Prop :=
  f.bytes.length = 32 ∧ readBe (f.bytes.drop 30) = (checkValue (f.bytes.take 30)).toNat
    ∧ sendsType f.port (unsignedAt f.bytes 0 1) = true

/-- The response frame of a request that is not a read (R161). -/
def responseFrame (q : Req) (tag : Byte) (r : Reply) : Sent :=
  ⟨.s, sealFrame (responseBytes (byte (reqCode q)) tag r)⟩

/-- The response train of a read (R174). -/
def responseTrain (q : Req) (tag : Byte) (r : Reply) : List Sent :=
  (List.range (trainLength r.data)).map fun i => ⟨.s, sealFrame (readBytes (byte (reqCode q)) tag r i)⟩

/-! ### Requests -/

/-- The kind and the tag of a request; none for a command that is no request (Figure 10-1). -/
def requestHead : Instr → Option (Req × Byte)
  | .loadSegment tag _ _ _ => some (.loadSegment, tag)
  | .commit tag _ _ => some (.commit, tag)
  | .commence tag _ => some (.commence, tag)
  | .siteReset tag _ => some (.siteReset, tag)
  | .craneRestart tag _ => some (.craneRestart, tag)
  | .setSiteTime tag _ _ => some (.setSiteTime, tag)
  | .haltCrane tag _ => some (.haltCrane, tag)
  | .releaseCrane tag _ => some (.releaseCrane, tag)
  | .resumeCrane tag _ => some (.resumeCrane, tag)
  | .forceReleaseZone tag _ => some (.forceReleaseZone, tag)
  | .setZonePermissions tag _ _ _ _ => some (.setZonePermissions, tag)
  | .grantAccess tag _ _ _ _ => some (.grantAccess, tag)
  | .revokeAccess tag _ _ => some (.revokeAccess, tag)
  | .bookLift tag _ _ => some (.bookLift, tag)
  | .cancelBooking tag _ => some (.cancelBooking, tag)
  | .retireBooking tag _ => some (.retireBooking, tag)
  | .readCrane tag _ _ => some (.readCrane, tag)
  | .readZone tag _ => some (.readZone, tag)
  | .readBooking tag _ _ => some (.readBooking, tag)
  | .readCounters tag _ _ => some (.readCounters, tag)
  | .readCapture tag _ _ => some (.readCapture, tag)
  | .snapshotCounters tag _ => some (.snapshotCounters, tag)
  | .setReporting tag _ _ => some (.setReporting, tag)
  | .triggerCapture tag _ => some (.triggerCapture, tag)
  | .powerOn => none
  | .poseFrame _ _ => none
  | .demandFrame _ _ => none
  | .idleLineEnd _ => none
  | .managementFrame _ => none
  | .tstaleExpiry _ => none
  | .tlostExpiry _ => none
  | .tcabExpiry _ => none
  | .holdLimitExpiry _ => none
  | .vaneTimeout _ => none
  | .paceTimerExpiry => none
  | .transferIntervalExpiry => none
  | .siteSecond => none
  | .overrideExpiry _ => none
  | .grantExpiry _ _ => none
  | .windowOpenEvent _ => none
  | .windowCloseEvent _ => none

/-! ### Trains of request frames -/

/-- One frame of a request train (Figure 11-6, R173): accepted on the S-port, with the kind, tag and target of its train, its
index, and the last mark where it is the last. -/
abbrev RequestFrame (kind tag : Byte) (tgt : Target) (index : Nat) (last : Bool) (f : List RxByte) : Prop :=
  f.length = 32 ∧ requestAccepted f = true ∧ byte (unsignedAt (plainBytes f) 1 1) = kind
    ∧ byte (unsignedAt (plainBytes f) 2 1) = tag ∧ frameTarget (plainBytes f) = tgt
    ∧ unsignedAt (plainBytes f) 3 1 = index + (if last then 128 else 0)

/-- A whole train of 1 to 32 frames, indices 0, 1, 2 and on, the last mark on the last frame alone. -/
abbrev RequestTrain (kind tag : Byte) (tgt : Target) (fs : List (List RxByte)) : Prop :=
  1 ≤ fs.length ∧ fs.length ≤ 32
    ∧ ∀ i : Fin fs.length, RequestFrame kind tag tgt i.val (decide (i.val + 1 = fs.length)) fs[i]

/-- The payload a train carries: bytes 7 to 29 of its frames, one after the other. -/
def trainPayload (fs : List (List RxByte)) : List Byte := fs.flatMap fun f => fieldAt (plainBytes f) 7 23

/-! ### What a statement says unchanged -/

/-- A hold of kind BOOKING is on the leg of its holder's ACTIVE booking (R44). -/
def BookingHoldsOnLeg (s : State) : Prop :=
  ∀ z k taken, (s.zone z).st = .held k .booking taken → z ∈ currentLeg s k

/-- No crane holds what its footprint has in common with another: every zone of crane k's footprint that has a holder is
held by k. -/
def footprintClear (s : State) (k : Crane) : Prop :=
  ∀ z j, (useIn (footprint s k) z).isSome = true → (s.zone z).holder = some j → j = k

end Sys2Proof.Machine
end

