-- ==== Sys2Proof/Certificates/Slice0/Obligations.lean ====
section
/-! DEFINITION. The statements for the provers. Each docstring names the rules of spec/ a statement formalises, and the log
entry where it says something the model chose. A frame is written as `t = { s with … := t.… }`: every part of the state
that is not named is unchanged. -/

open Sys2Proof Sys2Proof.Machine

/-! ### The step, commands and answers -/

/-- The command at the front of the queue is run on the state with the queue's rest (log 1). -/
def Obligations.StepTakesFrontCommand : Prop :=
  ∀ (c : Instr) (s : State), step { s with pending := c :: s.pending } = exec c s

/-- On an empty queue a timed event that is due is taken, and with none due one millisecond passes (log 2, log 4). -/
def Obligations.IdleStepTakesDueEventOrTicks : Prop :=
  ∀ s : State, s.pending = [] →
    (∃ c ∈ dueEvents s, step s = exec c s.chosen) ∨ (dueEvents s = [] ∧ step s = .next s.tick)

/-- A request is answered exactly once, after its effect: one response frame, or for a read one train of response frames,
with the request's kind and tag; its effect itself sends nothing. A refused request leaves every item of the coordinator as
it stood (R161, R162). -/
def Obligations.RequestActedOnAndAnsweredOnce : Prop :=
  ∀ (c : Instr) (s : State) (j : Judged), judgeRequest c s = some j →
    requestHead c = some (j.req, j.tag) ∧ j.after.sent = s.sent
      ∧ (∀ why check k z, j.reply = .refused why check k z → j.after = s)
      ∧ exec c s = .next { j.after with sent := s.sent ++
          (if isRead j.req = true then responseTrain j.req j.tag j.reply else [responseFrame j.req j.tag j.reply]) }

/-- The train a read is answered with carries the data whole: 21 bytes to a frame, frame i with index i, the last mark on
the last alone, zeros after the data (R174; that bits 5 and 6 of that byte are zero is log 44). -/
def Obligations.ReadTrainCarriesItsData : Prop :=
  ∀ (q : Req) (tag : Byte) (r : Reply),
    let fs := responseTrain q tag r
    fs.length = max 1 ((r.data.length + 20) / 21)
      ∧ (∃ zeros, fs.flatMap (fun f => fieldAt f.bytes 9 21) = r.data ++ List.replicate zeros 0#8)
      ∧ ∀ i, i < fs.length → ∃ f, fs[i]? = some f ∧ f.port = .s ∧ f.bytes.length = 32
          ∧ f.bytes[0]? = some 4#8 ∧ f.bytes[1]? = some (byte (reqCode q)) ∧ f.bytes[2]? = some tag
          ∧ fieldAt f.bytes 3 5 = replyHead r
          ∧ f.bytes[8]? = some (byte (i % 32 + if i + 1 = fs.length then 128 else 0))

/-- A train of request frames that arrives whole is taken: its request is run with the payload of all its frames, acted on and
answered as the request itself would be, and no assembly is left; an unknown kind is answered REFUSED RANGE. A frame without
the last mark starts an assembly at index 0, joins the one it continues, and otherwise discards it, as does a last frame that
continues none; none of these sends a response. A frame that is not accepted is discarded without a response, bytes short of a
frame wait, and an idle line drops them (R161, R171, R173). Which fields a payload is read as where the spec leaves a target, a
width or an order open is the model's choice, logs 8, 11, 12, 41, 42, and that bits 5 and 6 of byte 3 are ignored is log 28. -/
def Obligations.RequestTrainRunsItsRequest : Prop :=
  (∀ (kind tag : Byte) (tgt : Target) (fs : List (List RxByte)) (s : State),
    RequestTrain kind tag tgt fs → s.line.s = [] →
      let s' : State := { s with mgmt := { s.mgmt with assembly := none } }
      (∀ c rest, parseRequest kind.toNat tag tgt ⟨trainPayload fs, s.freeCount⟩ = some (c, rest) →
          let u : State := { s' with freeCount := rest.free }
          exec (.managementFrame fs.flatten) s = exec c u
            ∧ ∃ j, judgeRequest c u = some j ∧ exec (.managementFrame fs.flatten) s = .next { j.after with sent := s.sent ++
                (if isRead j.req = true then responseTrain j.req tag j.reply else [responseFrame j.req tag j.reply]) })
      ∧ (parseRequest kind.toNat tag tgt ⟨trainPayload fs, s.freeCount⟩ = none →
          exec (.managementFrame fs.flatten) s
            = .next { s' with sent := s.sent ++ [⟨.s, sealFrame (responseBytes kind tag (.no .range))⟩] }))
  ∧ (∀ (f : List RxByte) (s : State), f.length = 32 → s.line.s = [] →
      checkOk f = true → unsignedAt (plainBytes f) 0 1 = 3 →
      let b := plainBytes f
      let index := unsignedAt b 3 1 % 32
      let last := (unsignedAt b 3 1).testBit 7
      let first : Assembly := { kind := byte (unsignedAt b 1 1), tag := byte (unsignedAt b 2 1), tgt := frameTarget b,
                                parts := [fieldAt b 7 23] }
      let continued (a : Assembly) : Prop :=
        index = a.parts.length ∧ first.kind = a.kind ∧ first.tag = a.tag ∧ first.tgt = a.tgt
      let holding (a : Option Assembly) : State := { s with mgmt := { s.mgmt with assembly := a } }
      (last = false → index = 0 → exec (.managementFrame f) s = .next (holding (some first)))
      ∧ (∀ a, last = false → index ≠ 0 → s.mgmt.assembly = some a → continued a →
          exec (.managementFrame f) s = .next (holding (some { a with parts := a.parts ++ first.parts })))
      ∧ (index ≠ 0 → (∀ a, s.mgmt.assembly = some a → ¬continued a) →
          exec (.managementFrame f) s = .next (holding none)))
  ∧ (∀ (f : List RxByte) (s : State), f.length = 32 → s.line.s = [] →
      ¬(checkOk f = true ∧ unsignedAt (plainBytes f) 0 1 = 3) → exec (.managementFrame f) s = .next s)
  ∧ (∀ (f : List RxByte) (s : State), f.length < 32 → s.line.s = [] →
      exec (.managementFrame f) s = .next { s with line := { s.line with s := f } })
  ∧ ∀ s : State, exec (.idleLineEnd .s) s = .next { s with line := { s.line with s := [] } }

/-! ### Power-on and the invariants -/

/-- The values every block takes at power-on (R22, R27, R43, R72, R131, R151, R156, R158, R160, R163, R167, R173 and Figures 1-1,
2-2, 3-3, 4-1, 5-2, 6-1, 7-2, 9-2, 9-5); the commands that wait stay (log 6), and the pace timer's first period is that of
pace 50 (log 27). -/
def Obligations.PowerOnTakesInitialValues : Prop :=
  ∀ s : State, ∃ t, exec .powerOn s = .next t
    ∧ t.mode = .config ∧ t.clock = ⟨0, t.now⟩ ∧ t.bookings = [] ∧ t.access.grants = [] ∧ t.mgmt.assembly = none
    ∧ t.site.zoneTable = none ∧ (∀ i : Fin 4, t.site.zoneStaging[i] = none)
    ∧ (∀ k : Crane,
        t.lane k = { state := .syncing, syncRun := 0, lastSeq := none, tstale := none, tlost := none, cab := .silent,
                     tcab := none, control := .halted, lastStep := none, lastAnswer := none, outSeq := 0,
                     clamps := ⟨false, false, false⟩ }
        ∧ t.pose k = none
        ∧ t.profile k = none ∧ t.map k = none ∧ t.chart k = none ∧ t.policy k = none
        ∧ (t.staging k).profile = none ∧ (∀ i : Fin 16, (t.staging k).map[i] = none) ∧ (t.staging k).chart = none
        ∧ (t.staging k).policy = none ∧ t.site.structural[k] = none ∧ t.site.policyCommit[k] = none
        ∧ t.mgmt.structuralTag[k] = none ∧ t.mgmt.policyTag[k] = none
        ∧ t.arb k = { motionWait := none, reservation := none, lastReload := t.now, reloadCause := none,
                      yieldZone := none, overlaps := [], settling := false }
        ∧ t.govRec k = { requested := ⟨0, 0, 0⟩, output := ⟨0, 0, 0⟩, permitted := ⟨none, none, none⟩,
                         boundary := ⟨none, none, none⟩, chartMark := .clear, overrunMark := false }
        ∧ t.wind k = { running := false, level := .calm, last := none, pending := none, window := [], mean := none,
                       figure := none, raiseAlert := 0, raiseHold := 0, raiseStow := 0, clearCount := 0, faultRun := 0,
                       faultMark := false }
        ∧ t.vane k = { state := .none, start := none, timeout := none, blocked := false }
        ∧ (∀ i : Fin 9, (t.recorder.counters[k])[i] = ⟨0, false⟩ ∧ (t.recorder.reports[k]).values[i] = ⟨0, false⟩)
        ∧ (t.recorder.reports[k]).stamp = none)
    ∧ (∀ z : Zone, t.zone z = { st := .free, vacate := false, sweepPending := none, queue := [] }
        ∧ t.perm z = { current := ⟨false, false⟩, override := false, expiry := none })
    ∧ t.recorder.queue = [] ∧ t.recorder.overflow = 0 ∧ t.recorder.capture = none ∧ t.recorder.missed = 0
    ∧ t.recorder.transferTimer = none ∧ t.recorder.paceTimer = t.now + 20
    ∧ t.recorder.settings.pace = 50 ∧ t.recorder.settings.interval = 0
    ∧ (∀ e, e ≠ .queueOverflow → e ∈ t.recorder.settings.enabled) ∧ t.recorder.settings.declareOnly = []
    ∧ (∀ e, e ∈ t.recorder.settings.triggers)
    ∧ t.pending = s.pending

/-- The state after reset meets every invariant stated below. -/
def Obligations.ResetMeetsTheInvariants : Prop :=
  let s := State.reset
  s.recorder.Sound ∧ (∀ z, (s.zone z).Sound) ∧ LiftsSound s ∧ BookingHoldsOnLeg s ∧ ConfigSound s ∧ s.access.Sound
    ∧ (∀ k, (s.lane k).Sound) ∧ (∀ k, ∀ p ∈ s.pose k, p.Sound) ∧ (∀ k, (s.wind k).Sound) ∧ ∀ f ∈ s.sent, f.Sound

/-- Every step keeps the counters, the counts and the Report Queue within their ranges and shapes: the queue never holds
more than 32 entries, and no two of them share both kind and crane (R152, R155, R156, R159). -/
def Obligations.StepKeepsRecorderSound : Prop :=
  ∀ s t : State, s.recorder.Sound → step s = .next t → t.recorder.Sound

/-- Every step keeps every zone record sound: a FREE zone has an empty wait queue and no sweep-pending crane, no crane
queues twice or for a zone it holds (R43, R53, R59). -/
def Obligations.StepKeepsZoneRecordsSound : Prop :=
  ∀ s t : State, (∀ z, (s.zone z).Sound) → step s = .next t → ∀ z, (t.zone z).Sound

/-- Every step keeps the Booking Table sound and every ACTIVE lift with a crane that may fly it: wind level not STOW, vane
state NONE, lane LIVE, control state RUN (R132, R145). -/
def Obligations.StepKeepsLiftsSound : Prop :=
  ∀ s t : State, LiftsSound s → step s = .next t → LiftsSound t

/-- After every step a zone is held with kind BOOKING only while it is a zone of the current leg of its holder's ACTIVE
booking (R44). -/
def Obligations.StepKeepsBookingHoldsOnLeg : Prop :=
  ∀ s t : State, TableSound s.bookings → BookingHoldsOnLeg s → step s = .next t → BookingHoldsOnLeg t

/-- Every step keeps what holds in CONFIG: every zone FREE, every crane HALTED, every monitor IDLE, every vane state NONE, no
lift ACTIVE, no commit pending (R21, R35, R43, R103, R131, R138). -/
def Obligations.StepKeepsConfigSound : Prop :=
  ∀ s t : State, TableSound s.bookings → ConfigSound s → step s = .next t → ConfigSound t

/-- Every frame the coordinator ever sends is 32 bytes long with the right check value and a type of its port (R24, R161,
R171, Figure 11-1). -/
def Obligations.StepKeepsSentFramesSound : Prop :=
  ∀ s t : State, (∀ f ∈ s.sent, f.Sound) → step s = .next t → ∀ f ∈ t.sent, f.Sound

/-- Every step keeps the access grant table sound: at most 16 entries, one to a crane and zone, each granting a use (R72,
R73). -/
def Obligations.StepKeepsGrantTableSound : Prop :=
  ∀ s t : State, s.access.Sound → step s = .next t → t.access.Sound

/-- Every step keeps every crane's lane, pose record and Wind Monitor sound: Tstale runs in LIVE alone, Tlost in STALE alone,
Tcab while the cab is ACTIVE alone; a pose record stays within the ranges its fields are saturated to; the raise count of a
wind level at or below the current one is zero, and a fault mark stands only at HOLD or STOW (R22, R27 to R32, R105, R106,
R113, R172). -/
def Obligations.StepKeepsCraneRecordsSound : Prop :=
  ∀ s t : State, step s = .next t →
    ((∀ k, (s.lane k).Sound) → ∀ k, (t.lane k).Sound)
      ∧ ((∀ k, ∀ p ∈ s.pose k, p.Sound) → ∀ k, ∀ p ∈ t.pose k, p.Sound)
      ∧ ((∀ k, (s.wind k).Sound) → ∀ k, (t.wind k).Sound)

/-! ### Counters, reports, capture -/

/-- A count adds its amount; past 65,535 the counter stays there and its marker is set, and a set marker stays set. Nothing
else changes (R152). -/
def Obligations.CountAddsAndSaturates : Prop :=
  ∀ (k : Crane) (c : CounterId) (n : Nat) (s : State), (s.counter k c).value ≤ 65535 →
    let t := count k c n s
    (t.counter k c).value = min 65535 ((s.counter k c).value + n)
      ∧ ((t.counter k c).marker = true ↔ (s.counter k c).marker = true ∨ 65535 < (s.counter k c).value + n)
      ∧ (∀ j d, ¬(j = k ∧ d = c) → t.counter j d = s.counter j d)
      ∧ t = { s with recorder := { s.recorder with counters := t.recorder.counters } }

/-- An offered report is discarded, coalesced into the entry of its kind and crane, appended, or lost (R155). -/
def Obligations.OfferedReportEntersTheQueue : Prop :=
  ∀ (o : Offer) (s : State),
    let r := s.recorder
    let t := offer o s
    let met : Bool := r.settings.enabled.contains o.kind && !(o.clearEdge && r.settings.declareOnly.contains o.kind)
    t = { s with recorder := { r with queue := t.recorder.queue, overflow := t.recorder.overflow } }
      ∧ (met = false → t = s)
      ∧ (met = true → ∀ before e after, r.queue = before ++ e :: after → e.kind = o.kind → e.crane = o.crane →
          r.queue.Pairwise Report.apart →
          t.recorder.overflow = r.overflow
            ∧ t.recorder.queue = before ++
                { e with value := o.value, zone := o.zone, booking := o.booking, count := min 255 (e.count + 1),
                         last := s.stamp } :: after)
      ∧ (met = true → (∀ e ∈ r.queue, ¬(e.kind = o.kind ∧ e.crane = o.crane)) →
          (r.queue.length < 32 → t.recorder.overflow = r.overflow
            ∧ t.recorder.queue = r.queue ++
                [{ kind := o.kind, crane := o.crane, zone := o.zone, booking := o.booking, value := o.value, count := 1,
                   first := s.stamp, last := s.stamp }])
          ∧ (32 ≤ r.queue.length → t.recorder.queue = r.queue
            ∧ t.recorder.overflow = min 65535 (r.overflow + 1)))

/-- A report that finds the queue full raises the pending-overflow count up to 65,535. When an entry leaves the queue at a
pace expiry while the count is not zero, the count joins the queued QUEUE_OVERFLOW entry, or a new one is placed at the
head, and becomes 0; the settings are not asked (R156). -/
def Obligations.QueueOverflowIsCountedAndReported : Prop :=
  (∀ (o : Offer) (s : State), passes s.recorder.settings o = true → s.recorder.queue.length = 32 →
      (∀ e ∈ s.recorder.queue, ¬(e.kind = o.kind ∧ e.crane = o.crane)) →
      (offer o s).recorder = { s.recorder with overflow := min 65535 (s.recorder.overflow + 1) })
    ∧ ∀ (e : Report) (rest : List Report) (s : State), s.recorder.queue = e :: rest → s.recorder.overflow ≠ 0 →
        ∃ t, exec .paceTimerExpiry s = .next t ∧ t.recorder.overflow = 0
          ∧ ((∀ q ∈ rest, q.kind ≠ .queueOverflow) →
              t.recorder.queue = { kind := .queueOverflow, crane := none, zone := none, booking := none,
                                   value := s.recorder.overflow, count := 1, first := t.stamp, last := t.stamp } :: rest)
          ∧ (∀ before q after, rest = before ++ q :: after → q.kind = .queueOverflow →
              (∀ x ∈ before ++ after, x.kind ≠ .queueOverflow) →
              t.recorder.queue = before ++ { q with value := min 65535 (q.value + s.recorder.overflow),
                                                    count := min 255 (q.count + 1), last := t.stamp } :: after)

/-- At each expiry of the pace timer the head of the queue is sent on the S-port as one report frame; an empty queue sends
nothing. The timer restarts with the period ⌊1,000 / pace⌋ ms (R157). That it restarts from the expiry
instant is log 27, and that the command moves the timebase to that instant is the model's choice, log 3. Nothing but the time, the queue with its overflow count, the timer and the frame sent changes. -/
def Obligations.PaceTimerSendsTheHead : Prop :=
  ∀ s : State, ∃ t, exec .paceTimerExpiry s = .next t
    ∧ t.now = max s.now s.recorder.paceTimer
    ∧ t.recorder.paceTimer = s.recorder.paceTimer + 1000 / s.recorder.settings.pace
    ∧ (s.recorder.queue = [] → t.sent = s.sent ∧ t.recorder.queue = [] ∧ t.recorder.overflow = s.recorder.overflow)
    ∧ (∀ e rest, s.recorder.queue = e :: rest →
        t.sent = s.sent ++ [⟨.s, sealFrame (reportBytes e)⟩]
          ∧ (s.recorder.overflow = 0 → t.recorder.queue = rest ∧ t.recorder.overflow = 0))
    ∧ t = { s with now := t.now, sent := t.sent,
                   recorder := { s.recorder with queue := t.recorder.queue, overflow := t.recorder.overflow,
                                                 paceTimer := t.recorder.paceTimer } }

/-- A transfer copies the nine counters of a crane into its counter report record with the present stamp and clears them.
An expiry of the transfer interval timer transfers every crane, offers one COUNTERS_READY with no crane and the value ALL, and
runs on for the next interval; SNAPSHOT COUNTERS transfers the crane named, or all cranes, leaves the timer as it was and is
answered DONE (R154, R170). That the next interval counts from the expiry instant is log 27, and that the expiry command moves
the timebase to that instant is the model's choice, log 3. -/
def Obligations.TransfersMoveTheCounters : Prop :=
  (∀ (x : Nat) (s : State), s.recorder.transferTimer = some x →
    ∃ t, exec .transferIntervalExpiry s = .next t
      ∧ t.now = max s.now x
      ∧ t.recorder.transferTimer = some (x + 1000 * s.recorder.settings.interval)
      ∧ (∀ (k : Crane) (i : Fin 9), (t.recorder.counters[k])[i] = ⟨0, false⟩
          ∧ (t.recorder.reports[k]).values[i] = (s.recorder.counters[k])[i])
      ∧ (∀ k : Crane, (t.recorder.reports[k]).stamp = some t.stamp)
      ∧ t.recorder.queue = (offer { kind := .countersReady, value := 255 } (s.waitUntil x)).recorder.queue
      ∧ t = { s with now := t.now,
                     recorder := { s.recorder with counters := t.recorder.counters, reports := t.recorder.reports,
                                                   transferTimer := t.recorder.transferTimer,
                                                   queue := t.recorder.queue, overflow := t.recorder.overflow } })
  ∧ ∀ (tag : Byte) (tgt : Target) (s : State) (who : Crane → Bool) (name : Option Crane),
    (targetIsAll tgt = true ∧ (∀ k, who k = true) ∧ name = none)
      ∨ (∃ k, targetCrane tgt = some k ∧ (∀ j, who j = true ↔ j = k) ∧ name = some k) →
    ∃ t, exec (.snapshotCounters tag tgt) s = .next t
      ∧ t.sent = s.sent ++ [responseFrame .snapshotCounters tag .ok]
      ∧ (∀ k, who k = true → (t.recorder.reports[k]).stamp = some s.stamp
          ∧ ∀ i : Fin 9, (t.recorder.counters[k])[i] = ⟨0, false⟩
              ∧ (t.recorder.reports[k]).values[i] = (s.recorder.counters[k])[i])
      ∧ (∀ k, who k = false → t.recorder.counters[k] = s.recorder.counters[k]
          ∧ t.recorder.reports[k] = s.recorder.reports[k])
      ∧ t.recorder.queue = (offer { kind := .countersReady, crane := name,
                                    value := (name.map craneNum).getD 255 } s).recorder.queue
      ∧ t = { s with sent := t.sent,
                     recorder := { s.recorder with counters := t.recorder.counters, reports := t.recorder.reports,
                                                   queue := t.recorder.queue, overflow := t.recorder.overflow } }

/-- SET REPORTING takes every setting it carries, restarts the pace timer, restarts the transfer interval timer or stops it
at 0, and is answered DONE; with a pace outside 1 to 200 or an interval above 3,600 it is refused RANGE (R158, R170). -/
def Obligations.SetReportingTakesItsSettings : Prop :=
  ∀ (tag : Byte) (tgt : Target) (c : Settings) (s : State), targetIsSite tgt = true →
    (1 ≤ c.pace → c.pace ≤ 200 → c.interval ≤ 3600 →
      exec (.setReporting tag tgt c) s = .next
        { s with
          recorder := { s.recorder with
            settings := c, paceTimer := s.now + 1000 / c.pace,
            transferTimer := if c.interval = 0 then none else some (s.now + 1000 * c.interval) }
          sent := s.sent ++ [responseFrame .setReporting tag .ok] })
    ∧ (¬(1 ≤ c.pace ∧ c.pace ≤ 200 ∧ c.interval ≤ 3600) →
      exec (.setReporting tag tgt c) s
        = .next { s with sent := s.sent ++ [responseFrame .setReporting tag (.no .range)] })

/-- TRIGGER CAPTURE is answered DONE with KEPT when its trigger fills the empty buffer with the present stamp, the kind
SUPERVISOR and what every crane shows, and with MISSED when it finds the buffer full, which stays and counts it (R159,
R160). -/
def Obligations.TriggerCaptureKeepsOrMisses : Prop :=
  ∀ (tag : Byte) (tgt : Target) (s : State), targetIsSite tgt = true →
    TriggerKind.supervisor ∈ s.recorder.settings.triggers →
    ∃ t, exec (.triggerCapture tag tgt) s = .next t
      ∧ (s.recorder.capture = none →
          t.sent = s.sent ++ [responseFrame .triggerCapture tag (.done [1#8])]
            ∧ t.recorder.missed = s.recorder.missed
            ∧ t.recorder.queue = (offer { kind := .captureReady, value := 7 } s).recorder.queue
            ∧ ∃ c, t.recorder.capture = some c ∧ c.stamp = s.stamp ∧ c.trigger = .supervisor ∧ c.crane = none
                ∧ c.zone = none
                ∧ ∀ k : Crane, c.snapshots[k] = ⟨s.pose k, (s.lane k).state, (s.wind k).level, (s.vane k).state⟩)
      ∧ (∀ c, s.recorder.capture = some c →
          t.sent = s.sent ++ [responseFrame .triggerCapture tag (.done [2#8])]
            ∧ t.recorder.capture = some c ∧ t.recorder.missed = min 255 (s.recorder.missed + 1)
            ∧ t.recorder.queue = s.recorder.queue)
      ∧ t = { s with sent := t.sent,
                     recorder := { s.recorder with capture := t.recorder.capture, missed := t.recorder.missed,
                                                   queue := t.recorder.queue, overflow := t.recorder.overflow } }

/-! ### Reads -/

/-- READ CRANE, READ ZONE, READ BOOKING and READ COUNTERS answer DONE with a train of the data their part names and change
nothing else; every part has one length, an absent item as zeros. Part 2 of READ CRANE says of every zone, in one bit each,
whether the crane holds it in HELD, whether it is SWEPT for it, and whether its sweep-pending names it (R150, R153, R169, R173,
R174). The lengths rest on the layout the model chose: presence bytes, flags, markers and speeds (log 13), and the two bytes of
the hold limit in READ ZONE (log 41). -/
def Obligations.ReadsAnswerTheirData : Prop :=
  (∀ (tag : Byte) (tgt : Target) (part : Nat) (s : State),
    (∀ k, targetCrane tgt = some k → part ≤ 7 →
      exec (.readCrane tag tgt part) s
          = .next { s with sent := s.sent ++ responseTrain .readCrane tag (.done (craneData s k part)) }
        ∧ [14, 31, 24, 22, 23, 21, 24, 27][part]? = some (craneData s k part).length)
    ∧ (∀ z, targetZone tgt = some z →
      exec (.readZone tag tgt) s = .next { s with sent := s.sent ++ responseTrain .readZone tag (.done (zoneData s z)) }
        ∧ (zoneData s z).length = 50)
    ∧ (∀ id b, targetBooking tgt = some id → findBooking s id = some b →
      (part = 0 → exec (.readBooking tag tgt part) s
        = .next { s with sent := s.sent ++ responseTrain .readBooking tag (.done (bookingPart0 b)) })
      ∧ (part = 1 → exec (.readBooking tag tgt part) s
        = .next { s with sent := s.sent ++ responseTrain .readBooking tag (.done (bookingPart1 b)) })
      ∧ (bookingPart0 b).length = 24 ∧ (bookingPart1 b).length = 27)
    ∧ ∀ k, targetCrane tgt = some k →
      (part = 0 → exec (.readCounters tag tgt part) s
        = .next { s with sent := s.sent ++ responseTrain .readCounters tag (.done (counterValues s.recorder.reports[k])) })
      ∧ (part = 1 → exec (.readCounters tag tgt part) s
        = .next { s with sent := s.sent ++ responseTrain .readCounters tag (.done (counterMarkers s.recorder.reports[k])) })
      ∧ (counterValues s.recorder.reports[k]).length = 18 ∧ (counterMarkers s.recorder.reports[k]).length = 16)
  ∧ ∀ (s : State) (k : Crane) (z : Zone),
    let bit (block : Nat) : Option Bool := ((craneData s k 2)[8 * block + z.val / 8]?).map (·.getLsbD (z.val % 8))
    bit 0 = some (decide ((s.zone z).heldBy = some k))
      ∧ bit 1 = some (decide ((s.zone z).sweptFor = some k))
      ∧ bit 2 = some (decide ((s.zone z).sweepPending = some k))

/-- READ CAPTURE answers its part; part 0 then empties a full buffer and sets the missed count to 0, and parts 1 to 8 leave
the buffer as it stands. Nothing else changes (R160, R169). That the data begin with a presence byte, 1 for a full buffer, and
that part 0 has 13 bytes and every other part 35 is the layout the model chose, log 13. -/
def Obligations.ReadCaptureAnswersAndEmpties : Prop :=
  ∀ (tag : Byte) (tgt : Target) (part : Nat) (s : State), targetIsSite tgt = true → part ≤ 8 →
    ∃ t, exec (.readCapture tag tgt part) s = .next t
      ∧ t.sent = s.sent ++ responseTrain .readCapture tag (.done (captureData s part))
      ∧ (captureData s part).length = (if part = 0 then 13 else 35)
      ∧ (captureData s part)[0]? = some (if s.recorder.capture.isSome = true then 1#8 else 0#8)
      ∧ t.recorder.capture = (if part = 0 then none else s.recorder.capture)
      ∧ t.recorder.missed = (if part = 0 ∧ s.recorder.capture.isSome = true then 0 else s.recorder.missed)
      ∧ t = { s with sent := t.sent,
                     recorder := { s.recorder with capture := t.recorder.capture, missed := t.recorder.missed } }

/-! ### Lanes -/

/-- A frame on a lane port is accepted only with the right check value, the type that suits the port and the lane's crane
number. Any other whole frame, and a run of bytes that ends short of 32, is counted once on FRAME_ERRORS and changes nothing
else; an idle line with no byte in progress changes nothing (R23, R171). -/
def Obligations.RejectedLaneFrameIsOnlyCounted : Prop :=
  ∀ (k : Crane) (f : List RxByte) (s : State),
    (f.length = 32 → s.line.d[k] = [] →
      ¬(checkOk f = true ∧ unsignedAt (plainBytes f) 0 1 = 1 ∧ unsignedAt (plainBytes f) 1 1 = k.val + 1) →
      exec (.poseFrame k f) s = .next (count k .frameErrors 1 s))
    ∧ (f.length = 32 → s.line.c[k] = [] →
      ¬(checkOk f = true ∧ unsignedAt (plainBytes f) 0 1 = 2 ∧ unsignedAt (plainBytes f) 1 1 = k.val + 1) →
      exec (.demandFrame k f) s = .next (count k .frameErrors 1 s))
    ∧ (f.length < 32 → f ≠ [] →
      (s.line.d[k] = [] → ∃ t, exec (.poseFrame k f) s = .next t
        ∧ t = { s with line := { s.line with d := s.line.d.set k f } }
        ∧ exec (.idleLineEnd (.d k)) t = .next (count k .frameErrors 1 s))
      ∧ (s.line.c[k] = [] → ∃ t, exec (.demandFrame k f) s = .next t
        ∧ t = { s with line := { s.line with c := s.line.c.set k f } }
        ∧ exec (.idleLineEnd (.c k)) t = .next (count k .frameErrors 1 s)))
    ∧ (s.line.d[k] = [] → exec (.idleLineEnd (.d k)) s = .next s)
    ∧ (s.line.c[k] = [] → exec (.idleLineEnd (.c k)) s = .next s)

/-- An accepted pose replaces the crane's pose record, the flags debounced against the record before; it is forwarded once on
C-port k with the record's values and the status as the blocks left it; while the cab is SILENT one substituted STOP follows
on D-port k and is counted. Other cranes' pose records, motion and wind records and lanes stay, but for a halt by an overlap
(R25, R27, R34, R35, R42, R48, R172; the status bytes of an absent step or booking and the bits the figures do not name
are log 44). -/
def Obligations.AcceptedPoseIsRecordedAndForwarded : Prop :=
  ∀ (k : Crane) (f : List RxByte) (s : State), s.line.d[k] = [] → f.length = 32 → laneAccepts poseType k f = true →
    let i := poseIn (plainBytes f)
    let p := poseRecord (s.pose k) i s.stamp
    let silent := (s.lane k).cab = .silent
    ∃ t, exec (.poseFrame k f) s = .next t
      ∧ t.pose k = some p
      ∧ (t.lane k).lastSeq = some i.seq ∧ (t.lane k).cab = (s.lane k).cab ∧ (t.lane k).tcab = (s.lane k).tcab
      ∧ (∃ u : State, u.lane k = { t.lane k with clamps := (s.lane k).clamps, outSeq := (s.lane k).outSeq }
          ∧ u = { t with lanes := u.lanes }
          ∧ t.sent = s.sent ++ ⟨.c k, sealFrame (forwardedPose u k p i.flags)⟩ ::
              (if silent then
                [⟨.d k, sealFrame (outDemand k ⟨0, 0, 0⟩ ⟨false, false, false⟩ (reasonFlags t k) true
                  (decide ((t.vane k).state = .vaning)) (s.lane k).outSeq)⟩]
               else []))
      ∧ (t.lane k).outSeq = (if silent then ((s.lane k).outSeq + 1) % 256 else (s.lane k).outSeq)
      ∧ (t.lane k).clamps = (if silent then ⟨false, false, false⟩ else (s.lane k).clamps)
      ∧ t.counter k .stopSubstitutes
          = (if silent then (s.counter k .stopSubstitutes).add 1 else s.counter k .stopSubstitutes)
      ∧ (∀ j, j ≠ k → t.pose j = s.pose j ∧ t.govRec j = s.govRec j ∧ t.wind j = s.wind j
          ∧ (t.lane j = s.lane j ∨ t.lane j = { s.lane j with control := .halted }))
      ∧ t = { s with lanes := t.lanes, poses := t.poses, site := t.site, air := t.air, gov := t.gov, winds := t.winds,
                     vanes := t.vanes, bookings := t.bookings, recorder := t.recorder, mgmt := t.mgmt, sent := t.sent }

/-- How an accepted pose advances the lane: a sync run of four poses whose numbers follow one another makes a SYNCING lane
LIVE, a LIVE lane restarts Tstale, a STALE lane becomes LIVE again and stops Tlost, a LOST lane becomes SYNCING with a run of
1 (R28 to R31). -/
def Obligations.AcceptedPoseAdvancesTheLane : Prop :=
  ∀ (k : Crane) (f : List RxByte) (s : State), s.line.d[k] = [] → f.length = 32 → laneAccepts poseType k f = true →
    let l := s.lane k
    let seq := (poseIn (plainBytes f)).seq
    let run := if l.syncRun ≠ 0 ∧ l.lastSeq = some ((seq + 255) % 256) then l.syncRun + 1 else 1
    let fresh := some (s.now + tstaleOf s k)
    ∃ t, exec (.poseFrame k f) s = .next t
      ∧ (l.state = .syncing → run < 4 →
          (t.lane k).state = .syncing ∧ (t.lane k).syncRun = run ∧ (t.lane k).tstale = l.tstale
            ∧ (t.lane k).tlost = l.tlost)
      ∧ (l.state = .syncing → 4 ≤ run →
          (t.lane k).state = .live ∧ (t.lane k).syncRun = 0 ∧ (t.lane k).tstale = fresh ∧ (t.lane k).tlost = l.tlost)
      ∧ (l.state = .live →
          (t.lane k).state = .live ∧ (t.lane k).syncRun = l.syncRun ∧ (t.lane k).tstale = fresh
            ∧ (t.lane k).tlost = l.tlost)
      ∧ (l.state = .stale →
          (t.lane k).state = .live ∧ (t.lane k).syncRun = l.syncRun ∧ (t.lane k).tstale = fresh
            ∧ (t.lane k).tlost = none)
      ∧ (l.state = .lost →
          (t.lane k).state = .syncing ∧ (t.lane k).syncRun = 1 ∧ (t.lane k).tstale = l.tstale
            ∧ (t.lane k).tlost = l.tlost)

/-- When an accepted pose finds the last sequence number present, the gap (seq − last − 1) mod 256 is added to SEQ_GAPS when
it is not zero; with none present no gap is formed; either way the pose's number becomes the last one. A rejected pose leaves
number and counter alone, and so does the lane's way through STALE and LOST. A repeated number forms a gap of 255 and one a
number early a gap of 254, and such poses are recorded and forwarded like any other (R25). -/
def Obligations.SequenceGapIsCounted : Prop :=
  (∀ (k : Crane) (s : State),
    (∃ t, exec (.tstaleExpiry k) s = .next t ∧ (t.lane k).lastSeq = (s.lane k).lastSeq)
      ∧ ∃ t, exec (.tlostExpiry k) s = .next t ∧ (t.lane k).lastSeq = (s.lane k).lastSeq)
  ∧ ∀ (k : Crane) (f : List RxByte) (s : State), s.line.d[k] = [] → f.length = 32 →
    let seq := unsignedAt (plainBytes f) 2 1
    ∃ t, exec (.poseFrame k f) s = .next t
      ∧ (laneAccepts poseType k f = true →
          (t.lane k).lastSeq = some seq
            ∧ (∃ p x more, t.pose k = some p ∧ p.seq = seq ∧ t.sent = s.sent ++ ⟨.c k, x⟩ :: more
                ∧ unsignedAt x 2 1 = seq)
            ∧ ((s.lane k).lastSeq = none → t.counter k .seqGaps = s.counter k .seqGaps)
            ∧ ∀ last, (s.lane k).lastSeq = some last → last ≤ 255 →
                let g := (((seq : Int) - last - 1) % 256).toNat
                (g = 0 → t.counter k .seqGaps = s.counter k .seqGaps)
                  ∧ (g ≠ 0 → t.counter k .seqGaps = (s.counter k .seqGaps).add g)
                  ∧ (seq = last → g = 255) ∧ (seq + 1 = last → g = 254))
      ∧ (laneAccepts poseType k f = false →
          (t.lane k).lastSeq = (s.lane k).lastSeq ∧ t.counter k .seqGaps = s.counter k .seqGaps)

/-- A debounced flag changes only when two accepted poses in a row show the new value: the three cases of Figure 2-3, for
each of the three flags of the pose frame, against an empty record as against clear flags without a candidate mark (R26). -/
def Obligations.DebounceFollowsItsTable : Prop :=
  (∀ (f : Debounced) (seen : Bool),
      (seen = f.value → f.judge seen = ⟨f.value, false⟩)
        ∧ (seen ≠ f.value → f.candidate = false → f.judge seen = ⟨f.value, true⟩)
        ∧ (seen ≠ f.value → f.candidate = true → f.judge seen = ⟨seen, false⟩))
    ∧ ∀ (k : Crane) (f : List RxByte) (s : State), s.line.d[k] = [] → f.length = 32 →
        laneAccepts poseType k f = true →
        let flags := unsignedAt (plainBytes f) 3 1
        let before (g : Pose → Debounced) : Debounced :=
          match s.pose k with
          | none => ⟨false, false⟩
          | some p => g p
        ∃ t p, exec (.poseFrame k f) s = .next t ∧ t.pose k = some p
          ∧ p.hookParked = (before (·.hookParked)).judge (flags.testBit 0)
          ∧ p.brakeReleased = (before (·.brakeReleased)).judge (flags.testBit 1)
          ∧ p.driveFault = (before (·.driveFault)).judge (flags.testBit 2)

/-- Every accepted demand makes the cab ACTIVE, restarts Tcab and sends exactly one demand frame on D-port k, with the
lane's outgoing sequence number and the reason flags that hold; while one holds its speeds are zero and its clamp flags
clear. The speeds asked and sent are the Motion Governor's record, the clamp flags sent the lane's last ones (R32, R33, R38,
R40, R41; flag bits that Figure 11-5 does not name are log 44). Nothing of any other crane's lane changes. -/
def Obligations.AcceptedDemandSendsOneFrame : Prop :=
  ∀ (k : Crane) (f : List RxByte) (s : State), s.line.c[k] = [] → f.length = 32 → laneAccepts demandType k f = true →
    let d := demandIn (plainBytes f)
    ∃ t, exec (.demandFrame k f) s = .next t
      ∧ t.sent = s.sent ++ [⟨.d k, sealFrame (outDemand k (t.govRec k).output (t.lane k).clamps (reasonFlags t k) false
          (decide ((t.vane k).state = .vaning)) (s.lane k).outSeq)⟩]
      ∧ (t.govRec k).requested = d.speed
      ∧ ((reasonFlags t k).any = true → (t.govRec k).output = ⟨0, 0, 0⟩ ∧ (t.lane k).clamps = ⟨false, false, false⟩
          ∧ (t.govRec k).permitted = ⟨none, none, none⟩ ∧ (t.govRec k).boundary = ⟨none, none, none⟩)
      ∧ (t.lane k).cab = .active ∧ (t.lane k).tcab = some (s.now + tcabOf s k)
      ∧ (t.lane k).outSeq = ((s.lane k).outSeq + 1) % 256
      ∧ (t.lane k).state = (s.lane k).state ∧ (t.lane k).control = (s.lane k).control
      ∧ (d.step = 0 ∨ (s.lane k).lastStep = some d.stepNumber →
          (t.lane k).lastStep = (s.lane k).lastStep ∧ (t.lane k).lastAnswer = (s.lane k).lastAnswer
            ∧ t.bookings = s.bookings)
      ∧ (¬(d.step = 0 ∨ (s.lane k).lastStep = some d.stepNumber) →
          (t.lane k).lastStep = some d.stepNumber
            ∧ (t.lane k).lastAnswer = some ((bookingStep k d.step d.booking (cabStep k s)).1, d.booking))
      ∧ (∀ j, j ≠ k → t.lane j = s.lane j ∧ t.govRec j = s.govRec j)
      ∧ t = { s with lanes := t.lanes, air := t.air, gov := t.gov, vanes := t.vanes, bookings := t.bookings,
                     recorder := t.recorder, sent := t.sent }

/-- What the Motion Governor lets through on each axis: never more than the speed asked or against its sign, never more than
the axis's cap, and with a boundary at a distance only a speed that stops within it; a barred direction gets zero, and so
does every axis while a condition of R40 holds (R40, R81, R82, R85, R97, R98). -/
def Obligations.GovernedSpeedsStopBeforeTheirBoundary : Prop :=
  ∀ (k : Crane) (q : PerAxis Int) (s : State),
    let g := govern k q s
    let out := g.1.1
    ((reasonFlags s k).any = true → out = ⟨0, 0, 0⟩ ∧ g.1.2 = ⟨false, false, false⟩)
      ∧ ((reasonFlags s k).any = false → ∀ p prof, s.pose k = some p → s.profile k = some prof → ∀ a : Axis,
          (onAxis out a).natAbs ≤ (onAxis q a).natAbs
            ∧ (0 < onAxis q a → 0 ≤ onAxis out a) ∧ (onAxis q a < 0 → onAxis out a ≤ 0)
            ∧ (onAxis out a).natAbs ≤ (onAxis prof.dyn a).vcap
            ∧ (onAxis g.1.2 a = true ↔ (onAxis out a).natAbs < (onAxis q a).natAbs)
            ∧ ∀ b, onAxis (g.2.govRec k).boundary a = some b →
                (b.dist = none → onAxis out a = 0)
                  ∧ ∀ x, b.dist = some x → onAxis out a ≠ 0 →
                      (stopDist (onAxis prof.dyn a) (onAxis out a).natAbs : Int) ≤ x)

/-- When Tstale expires the lane becomes STALE, Tlost starts, the crane's motion wait and overlap set go, both its marks are
cleared, in OPERATING every hold it has is FROZEN or EXIT_ONLY and no hold is given up, and its ACTIVE booking is suspended
with the reason LANE (R29, R30, R48, R56, R64, R65, R83, R145; that the command moves the time to the expiry is log 3). -/
def Obligations.TstaleExpiryMakesTheLaneStale : Prop :=
  ∀ (k : Crane) (x : Nat) (s : State), (s.lane k).state = .live → (s.lane k).tstale = some x →
    ∃ t, exec (.tstaleExpiry k) s = .next t
      ∧ t.now = max s.now x
      ∧ t.lane k = { s.lane k with state := .stale, tstale := none, tlost := some (t.now + tlostOf s k) }
      ∧ (∀ j, j ≠ k → t.lane j = s.lane j ∧ t.govRec j = s.govRec j)
      ∧ (t.arb k).motionWait = none ∧ (t.arb k).overlaps = []
      ∧ t.govRec k = { s.govRec k with chartMark := .clear, overrunMark := false }
      ∧ (s.mode = .operating →
          (∀ z kind taken, (t.zone z).st = .held k kind taken → kind = .frozen ∨ kind = .exitOnly)
            ∧ (∀ z kind taken, (s.zone z).st = .held k kind taken → ∃ new, (t.zone z).st = .held k new taken)
            ∧ ∀ z j, j ≠ k → (s.zone z).holder = some j → (t.zone z).st = (s.zone z).st)
      ∧ (∀ b, activeBooking s k = some b → ∃ b' ∈ t.bookings,
          b'.id = b.id ∧ b'.state = (if b.overtime = true then .lapsed else .suspended) ∧ b'.reason = some .lane)
      ∧ t = { s with now := t.now, lanes := t.lanes, air := t.air, gov := t.gov, vanes := t.vanes,
                     bookings := t.bookings, recorder := t.recorder }

/-- When Tlost expires the lane becomes LOST and the crane HALTED, no lane timer runs, LANE_LOST is offered to the Capture
Buffer, and without an ACTIVE booking every hold stays as it is. When Tcab expires the cab state becomes SILENT and CAB_STATE
is reported; nothing else changes (R31, R33, R35, R159; log 3). -/
def Obligations.TlostAndTcabExpiries : Prop :=
  (∀ (k : Crane) (x : Nat) (s : State), (s.lane k).state = .stale → (s.lane k).tlost = some x →
    ∃ t, exec (.tlostExpiry k) s = .next t
      ∧ t.now = max s.now x
      ∧ t.lane k = { s.lane k with state := .lost, tlost := none, control := .halted }
      ∧ (∀ j, j ≠ k → t.lane j = s.lane j)
      ∧ (activeBooking s k = none ∨ (s.lane k).control = .halted →
          t.air = s.air ∧ t.bookings = s.bookings ∧ t.vanes = s.vanes)
      ∧ (s.recorder.capture = none → TriggerKind.laneLost ∈ s.recorder.settings.triggers →
          ∃ c, t.recorder.capture = some c ∧ c.trigger = .laneLost ∧ c.crane = some k ∧ c.zone = none
            ∧ (c.snapshots[k]).lane = .lost)
      ∧ (∀ c, s.recorder.capture = some c → t.recorder.capture = some c)
      ∧ t = { s with now := t.now, lanes := t.lanes, air := t.air, vanes := t.vanes, bookings := t.bookings,
                     recorder := t.recorder })
  ∧ ∀ (k : Crane) (x : Nat) (s : State), (s.lane k).cab = .active → (s.lane k).tcab = some x →
    ∃ t, exec (.tcabExpiry k) s = .next t
      ∧ t.now = max s.now x
      ∧ t.lane k = { s.lane k with cab := .silent, tcab := none }
      ∧ (∀ j, j ≠ k → t.lane j = s.lane j)
      ∧ t.recorder = (offer { kind := .cabState, crane := some k, value := 1 } (s.waitUntil x)).recorder
      ∧ t = { s with now := t.now, lanes := t.lanes, recorder := t.recorder }

/-- HALT CRANE is taken in both modes, present crane or not: the control state becomes HALTED, the ACTIVE booking is
suspended with the reason HALT (LAPSED when its OVERTIME flag is set), and the response is DONE. A crane already HALTED is not
changed; without an ACTIVE booking the halt changes no hold, wait or reservation (R35, R37, R145, R146). -/
def Obligations.HaltCraneHaltsItsCrane : Prop :=
  ∀ (tag : Byte) (tgt : Target) (k : Crane) (s : State), targetCrane tgt = some k →
    ∃ t, exec (.haltCrane tag tgt) s = .next t
      ∧ t.sent = s.sent ++ [responseFrame .haltCrane tag .ok]
      ∧ t.lane k = { s.lane k with control := .halted } ∧ (∀ j, j ≠ k → t.lane j = s.lane j)
      ∧ ((s.lane k).control = .halted → t = { s with sent := t.sent })
      ∧ ((s.lane k).control = .run → activeBooking s k = none →
          t.recorder = (offer { kind := .controlState, crane := some k, value := 1 } s).recorder
            ∧ t = { s with lanes := t.lanes, recorder := t.recorder, sent := t.sent })
      ∧ ((s.lane k).control = .run → ∀ b, activeBooking s k = some b → ∃ b' ∈ t.bookings,
          b'.id = b.id ∧ b'.state = (if b.overtime = true then .lapsed else .suspended) ∧ b'.reason = some .halt
            ∧ b'.suspensions = min 255 (b.suspensions + 1))
      ∧ t = { s with lanes := t.lanes, air := t.air, vanes := t.vanes, bookings := t.bookings, recorder := t.recorder,
                     sent := t.sent }

/-- RELEASE CRANE for a present crane in OPERATING with its lane LIVE: when another crane holds a zone of its footprint it is
refused CONFLICT with the lowest such zone; otherwise the control state becomes RUN, the response is DONE, and a SUSPENDED
booking resumes when the wind level is not STOW and the vane state NONE (R36, R147, R162). -/
def Obligations.ReleaseCraneRunsItsCrane : Prop :=
  ∀ (tag : Byte) (tgt : Target) (k : Crane) (s : State), targetCrane tgt = some k → cranePresent s k = true →
    s.mode = .operating → (s.lane k).state = .live →
    (footprintClear s k →
      ∃ t, exec (.releaseCrane tag tgt) s = .next t
        ∧ t.sent = s.sent ++ [responseFrame .releaseCrane tag .ok]
        ∧ t.lane k = { s.lane k with control := .run } ∧ (∀ j, j ≠ k → t.lane j = s.lane j)
        ∧ ((s.lane k).control = .run → t = { s with sent := t.sent })
        ∧ ((s.lane k).control = .halted → suspendedBooking s k = none →
            t.recorder = (offer { kind := .controlState, crane := some k, value := 0, clearEdge := true } s).recorder
              ∧ t = { s with lanes := t.lanes, recorder := t.recorder, sent := t.sent })
        ∧ ((s.lane k).control = .halted → (s.wind k).level ≠ .stow → (s.vane k).state = .none →
            ∀ b, suspendedBooking s k = some b → ∃ b' ∈ t.bookings, b'.id = b.id ∧ b'.state = .active ∧ b'.leg = b.leg)
        ∧ t = { s with lanes := t.lanes, air := t.air, bookings := t.bookings, recorder := t.recorder,
                       sent := t.sent })
    ∧ (∀ z j, (useIn (footprint s k) z).isSome = true → (s.zone z).holder = some j → j ≠ k →
        (∀ y i, y.val < z.val → (useIn (footprint s k) y).isSome = true → (s.zone y).holder = some i → i = k) →
        exec (.releaseCrane tag tgt) s = .next
          { s with sent := s.sent ++ [responseFrame .releaseCrane tag (.refused .conflict 0 none (some z))] })

/-! ### Zones -/

/-- When a hold that is subject to the hold limit reaches its limit instant, it is vacate-marked and VACATE_REQUEST is
reported for its holder with the cause HOLD_LIMIT; the hold itself and every other zone stay (R58, R59; log 3). -/
def Obligations.HoldLimitExpiryMarksTheHold : Prop :=
  ∀ (z : Zone) (k : Crane) (taken : Nat) (s : State), (s.zone z).st = .held k .motion taken → holdLimit s z ≠ 0 →
    (s.zone z).queue ≠ [] → (s.zone z).vacate = false →
    ∃ t, exec (.holdLimitExpiry z) s = .next t
      ∧ t.now = max s.now (max (s.arb k).lastReload taken + 1000 * holdLimit s z)
      ∧ t.zone z = { s.zone z with vacate := true } ∧ (∀ y, y ≠ z → t.zone y = s.zone y)
      ∧ (∀ j, t.arb j = s.arb j)
      ∧ t.recorder = (offer { kind := .vacateRequest, crane := some k, zone := some z, value := 1 }
          (s.waitUntil (max (s.arb k).lastReload taken + 1000 * holdLimit s z))).recorder
      ∧ t = { s with now := t.now, air := t.air, recorder := t.recorder }

/-- FORCE RELEASE ZONE releases a HELD zone of a crane in OPERATING and is answered DONE. The zone goes to the sweep-pending
crane, else to the first BOOKED or RESERVE entry or the first entry of its queue, if that crane may use it, and with no crane
that may use it becomes FREE. No other zone changes its holder (R51, R52, R67). -/
def Obligations.ForceReleaseZonePassesTheZoneOn : Prop :=
  ∀ (tag : Byte) (tgt : Target) (z : Zone) (s : State), targetZone tgt = some z → zonePresent s z = true →
    s.mode = .operating → (s.zone z).heldBy.isSome = true →
    let r := s.zone z
    ∃ t, exec (.forceReleaseZone tag tgt) s = .next t
      ∧ t.sent = s.sent ++ [responseFrame .forceReleaseZone tag .ok]
      ∧ (∀ c, r.sweepPending = some c →
          t.zone z = { st := .swept c s.now, vacate := false, sweepPending := none,
                       queue := r.queue.filter fun e => decide (e.crane ≠ c) })
      ∧ (r.sweepPending = none → ∀ e, (r.queue.find? fun e => decide (e.cls ≠ .routine)).or r.queue.head? = some e →
          mayUse s e.crane z e.use = true →
          (t.zone z).st = .held e.crane (if z ∈ currentLeg s e.crane then .booking else .motion) s.now
            ∧ (t.zone z).sweepPending = none
            ∧ (t.zone z).queue.map (·.crane) = (r.queue.filter fun d => decide (d.crane ≠ e.crane)).map (·.crane)
            ∧ ((s.arb e.crane).motionWait.map (·.zone) = some z → (t.arb e.crane).motionWait = none))
      ∧ (r.sweepPending = none → (∀ e ∈ r.queue, mayUse s e.crane z e.use = false) →
          t.zone z = { st := .free, vacate := false, sweepPending := none, queue := [] })
      ∧ (∀ y, y ≠ z → (t.zone y).st = (s.zone y).st)
      ∧ t = { s with air := t.air, vanes := t.vanes, recorder := t.recorder, sent := t.sent }

/-- The footprint step of a pose: a FREE zone of the footprint becomes HELD by the crane from the present instant, with the
kind of R44 when the crane may use it and EXIT_ONLY when it may not; a zone another crane has is an overlap and stays; a hold
of the crane's own whose use is not in its entitlement becomes EXIT_ONLY; a zone outside the footprint stays (R44, R47, R48,
R50, R78). -/
def Obligations.FootprintStepTakesTheFootprint : Prop :=
  ∀ (k : Crane) (f : List Occ) (settling : Bool) (s : State),
    let t := footprintStep k f settling s
    ∀ z,
      (useIn f z = none → t.zone z = s.zone z ∧ z ∉ (t.arb k).overlaps)
        ∧ ∀ u, useIn f z = some u →
          ((s.zone z).st = .free → mayUse s k z u = true →
            t.zone z = { s.zone z with st := .held k (if z ∈ currentLeg s k then .booking else .motion) s.now,
                                       vacate := false })
          ∧ ((s.zone z).st = .free → mayUse s k z u = false →
            t.zone z = { s.zone z with st := .held k .exitOnly s.now, vacate := false })
          ∧ (∀ j, (s.zone z).holder = some j → j ≠ k → t.zone z = s.zone z)
          ∧ (z ∈ (t.arb k).overlaps ↔ ∃ j, (s.zone z).holder = some j ∧ j ≠ k)
          ∧ (∀ kind taken, (s.zone z).st = .held k kind taken →
              t.zone z = { s.zone z with st := .held k (if mayUse s k z u = true then kind else .exitOnly) taken })
          ∧ (∀ taken, (s.zone z).st = .swept k taken → t.zone z = s.zone z)

/-- After the release step of a pose shown with the slew brake set, a crane's MOTION holds lie within its reach set or
footprint, its EXIT_ONLY holds within its footprint, and it has no FROZEN hold left (R49). -/
def Obligations.ReleaseStepKeepsOnlyTheReach : Prop :=
  ∀ (k : Crane) (f reach : List Occ) (s : State), (∀ z, (s.zone z).Sound) →
    let t := releaseStep k f reach false s
    ∀ z kind taken, (t.zone z).st = .held k kind taken →
      kind ≠ .frozen
        ∧ (kind = .motion → (useIn f z).isSome = true ∨ (useIn reach z).isSome = true)
        ∧ (kind = .exitOnly → (useIn f z).isSome = true)

/-! ### Access Control -/

/-- SET ZONE PERMISSIONS on a present zone: OVERRIDE makes the override present with the setting and the expiry carried,
unless the expiry is not later than the present site time, which is refused RANGE; REVERT returns the zone to its base
permissions; an unknown mode is refused RANGE. Other zones' permissions and the grants stay; permissions that do not change
leave every hold as it is (R70, R79, R80). -/
def Obligations.SetZonePermissionsSetsThem : Prop :=
  ∀ (tag : Byte) (tgt : Target) (z : Zone) (mode : Nat) (setting : PermSet) (expiry : Option Nat) (s : State),
    targetZone tgt = some z → zonePresent s z = true →
    let ahead : Prop := ∀ x, expiry = some x → s.clock.siteTime < x
    let new : Perm := if mode = 1 then ⟨setting, true, expiry⟩ else ⟨basePerms s z, false, none⟩
    ((mode = 1 ∧ ahead) ∨ mode = 2 →
      ∃ t, exec (.setZonePermissions tag tgt mode setting expiry) s = .next t
        ∧ t.sent = s.sent ++ [responseFrame .setZonePermissions tag .ok]
        ∧ t.perm z = new ∧ (∀ y, y ≠ z → t.perm y = s.perm y) ∧ t.access.grants = s.access.grants
        ∧ (new.current = (s.perm z).current → t.air = s.air ∧ t.vanes = s.vanes ∧ t.recorder = s.recorder)
        ∧ t = { s with air := t.air, access := t.access, vanes := t.vanes, recorder := t.recorder, sent := t.sent })
    ∧ ((mode = 1 ∧ ¬ahead) ∨ (mode ≠ 1 ∧ mode ≠ 2) →
      exec (.setZonePermissions tag tgt mode setting expiry) s
        = .next { s with sent := s.sent ++ [responseFrame .setZonePermissions tag (.no .range)] })

/-- GRANT ACCESS for a present crane and a present zone, with a use and no past expiry: the entry of that pair becomes the
one carried, replacing an old one even in a full table; with no entry and a full table it is refused TABLE_FULL. The crane
may then use the zone for what the zone's permissions or the grant give (R72, R73, R77; that the target is the crane is log
8). -/
def Obligations.GrantAccessStoresItsEntry : Prop :=
  ∀ (tag : Byte) (tgt : Target) (k : Crane) (zone : Nat) (z : Zone) (uses : PermSet) (expiry : Option Nat) (s : State),
    targetCrane tgt = some k → cranePresent s k = true → zoneOf? zone = some z → zonePresent s z = true →
    uses.jib = true ∨ uses.load = true → (∀ x, expiry = some x → s.clock.siteTime < x) →
    ((findGrant s k z).isSome = true ∨ s.access.grants.length < 16 →
      ∃ t, exec (.grantAccess tag tgt zone uses expiry) s = .next t
        ∧ t.sent = s.sent ++ [responseFrame .grantAccess tag .ok]
        ∧ findGrant t k z = some ⟨k, z, uses, expiry⟩
        ∧ (∀ j y, ¬(j = k ∧ y = z) → findGrant t j y = findGrant s j y)
        ∧ (∀ u, mayUse t k z u = (permGives (s.perm z).current u || permGives uses u))
        ∧ t.access.grants.length = s.access.grants.length + (if (findGrant s k z).isSome = true then 0 else 1)
        ∧ t.access.perms = s.access.perms
        ∧ t = { s with air := t.air, access := t.access, vanes := t.vanes, recorder := t.recorder, sent := t.sent })
    ∧ (findGrant s k z = none → 16 ≤ s.access.grants.length →
      exec (.grantAccess tag tgt zone uses expiry) s
        = .next { s with sent := s.sent ++ [responseFrame .grantAccess tag (.no .tableFull)] })

/-- REVOKE ACCESS: a crane or zone number out of range, or a pair without an entry, is refused BAD_TARGET; otherwise the
entry is removed, the re-examination runs for the change before the response is sent, and the response is DONE (R74, R79,
R161). That the request's target is the crane, another sort of target being refused BAD_TARGET, and that the zone leads the
payload is the model's reading, log 8. -/
def Obligations.RevokeAccessRemovesItsEntry : Prop :=
  ∀ (tag : Byte) (tgt : Target) (zone : Nat) (s : State),
    let names (k : Crane) (z : Zone) : Prop := tgt.sort = 1#8 ∧ tgt.value.toNat = k.val + 1 ∧ zone = z.val + 1
      ∧ ∃ g ∈ s.access.grants, g.crane = k ∧ g.zone = z
    (∀ (k : Crane) (z : Zone), names k z →
      let removed : State := { s with access := { s.access with
        grants := s.access.grants.filter fun g => !(decide (g.crane = k) && decide (g.zone = z)) } }
      exec (.revokeAccess tag tgt zone) s
        = .next { reexamine s removed with sent := s.sent ++ [responseFrame .revokeAccess tag .ok] })
    ∧ ((∀ k z, ¬names k z) →
      exec (.revokeAccess tag tgt zone) s
        = .next { s with sent := s.sent ++ [responseFrame .revokeAccess tag (.no .badTarget)] })

/-- The expiry of an override returns the zone to its base permissions and reports PERMISSION_EXPIRED with them; the expiry
of a grant removes its entry and reports GRANT_EXPIRED with its uses. The re-examination runs in the same event: a hold of the
zone whose holder lost a use becomes EXIT_ONLY when its use in the footprint is no longer given, is released when the zone is
not in the footprint, and stays when the use is still given. Other zones' holders, permission items and entries stay, and base
permissions equal to the overridden ones leave every hold as it is (R71, R75, R79; that the command moves site time to the
expiry is the model's choice, log 3). -/
def Obligations.SiteTimeExpiriesEndPermissions : Prop :=
  ∀ (k : Crane) (z : Zone) (x : Nat) (s : State),
    let w := s.waitSite x
    let examined (t : State) : Prop :=
      (∀ y, y ≠ z → (t.zone y).st = (s.zone y).st)
        ∧ ∀ j kind taken, (s.zone z).st = .held j kind taken →
          let lost : Prop := ∃ u, mayUse s j z u = true ∧ mayUse t j z u = false
          (∀ u, useIn (footprint s j) z = some u → kind ≠ .exitOnly →
            (lost → mayUse t j z u = false → t.zone z = { s.zone z with st := .held j .exitOnly taken })
              ∧ (mayUse t j z u = true → t.zone z = s.zone z))
          ∧ (lost → useIn (footprint s j) z = none → (s.zone z).queue = [] → (s.zone z).sweepPending = none →
              t.zone z = { st := .free, vacate := false, sweepPending := none, queue := [] })
    ((s.perm z).expiry = some x →
      ∃ t, exec (.overrideExpiry z) s = .next t
        ∧ t = reexamine w (offer { kind := .permissionExpired, zone := some z, value := permCode (basePerms s z) }
            (w.setPerm z ⟨basePerms s z, false, none⟩))
        ∧ t.clock.siteTime = max s.clock.siteTime x
        ∧ t.perm z = ⟨basePerms s z, false, none⟩ ∧ (∀ y, y ≠ z → t.perm y = s.perm y)
        ∧ t.access.grants = s.access.grants
        ∧ examined t
        ∧ (basePerms s z = (s.perm z).current → t.air = s.air ∧ t.vanes = s.vanes
            ∧ t.recorder = (offer { kind := .permissionExpired, zone := some z, value := permCode (basePerms s z) }
                w).recorder)
        ∧ t = { s with now := t.now, clock := t.clock, air := t.air, access := t.access, vanes := t.vanes,
                       recorder := t.recorder })
    ∧ (∀ g, findGrant s k z = some g → g.expiry = some x →
      ∃ t, exec (.grantExpiry k z) s = .next t
        ∧ t = reexamine w (offer
            { kind := .grantExpired, crane := some k, zone := some z, value := permCode g.uses }
            { w with access := { w.access with
              grants := w.access.grants.filter fun e => !(decide (e.crane = k) && decide (e.zone = z)) } })
        ∧ t.clock.siteTime = max s.clock.siteTime x
        ∧ findGrant t k z = none ∧ (∀ j y, ¬(j = k ∧ y = z) → findGrant t j y = findGrant s j y)
        ∧ t.access.perms = s.access.perms
        ∧ examined t
        ∧ t = { s with now := t.now, clock := t.clock, air := t.air, access := t.access, vanes := t.vanes,
                       recorder := t.recorder })

/-! ### Site Tables -/

/-- LOAD SEGMENT stages a segment that passes its field checks in its slot of its own target's staging area and is answered
DONE: profile, load chart and wind policy as segment 0, a reach map segment in its place, segment 0 of a map or of the zone
table restarting that staging. No active table and no other slot changes (R2 to R6, R10 to R12). -/
def Obligations.LoadSegmentStagesItsContent : Prop :=
  ∀ (tag : Byte) (tgt : Target) (s : State),
    let done : Sent := responseFrame .loadSegment tag .ok
    let staged (k : Crane) (c : CraneStaging) : State :=
      { s with site := { s.site with staging := s.site.staging.set k c }, sent := s.sent ++ [done] }
    (∀ k, targetCrane tgt = some k →
      (∀ p q, stagedProfile p = some q →
        exec (.loadSegment tag tgt 0 (.profile p)) s = .next (staged k { s.site.staging[k] with profile := some q }))
      ∧ (∀ c q, stagedChart c = some q →
        exec (.loadSegment tag tgt 0 (.loadChart c)) s = .next (staged k { s.site.staging[k] with chart := some q }))
      ∧ (∀ p, policyFieldsOk p = true →
        exec (.loadSegment tag tgt 0 (.policy p)) s = .next (staged k { s.site.staging[k] with policy := some p }))
      ∧ ∀ (i : Fin 16) sectors claims, sectors.mapM stagedSector = some claims → claims.any namesTwice = false →
        ∃ c, exec (.loadSegment tag tgt i.val (.reachMap sectors)) s = .next (staged k c)
          ∧ c = { s.site.staging[k] with map := c.map } ∧ c.map[i] = some claims
          ∧ ∀ j : Fin 16, j ≠ i → c.map[j] = if i = 0 then none else (s.site.staging[k]).map[j])
    ∧ (targetIsSite tgt = true → ∀ (i : Fin 4) zones, zones.all zoneFieldsOk = true →
        ∃ t, exec (.loadSegment tag tgt i.val (.zoneTable zones)) s = .next t
          ∧ t.site.zoneStaging[i] = some zones
          ∧ (∀ j : Fin 4, j ≠ i → t.site.zoneStaging[j] = if i = 0 then none else s.site.zoneStaging[j])
          ∧ t.sent = s.sent ++ [done]
          ∧ t = { s with site := { s.site with zoneStaging := t.site.zoneStaging }, sent := t.sent })

/-- A COMMIT of profile, map or chart of a crane in CONFIG, its named slots complete, every map or chart named for a crane
that is then present, and checks 1 to 7 passed, applies at once: the named tables become active, their slots are emptied, and
the response is DONE. Nothing else changes (R13, R14, R16). -/
def Obligations.StructuralCommitAppliesInConfig : Prop :=
  ∀ (tag : Byte) (tgt : Target) (set : Byte) (k : Crane) (p m c : Bool) (s : State),
    let g := s.site.staging[k]
    let w : StructuralCommit := { profile := named p g.profile, map := named m (stagedMap g), chart := named c g.chart,
                                  blocked := false }
    let after := tablesWith s k w
    targetCrane tgt = some k → tableSetOf set = some (.structural p m c) → s.mode = .config →
    s.site.structural[k] = none → (p = true → g.profile.isSome = true) → (m = true → (stagedMap g).isSome = true) →
    (c = true → g.chart.isSome = true) → ((m || c) = true → after.isPresent = true) →
    allChecks s k after true = none →
    ∃ t, exec (.commit tag tgt set) s = .next t
      ∧ t.sent = s.sent ++ [responseFrame .commit tag .ok]
      ∧ t.profile k = (if p = true then g.profile else s.profile k)
      ∧ t.map k = (if m = true then stagedMap g else s.map k)
      ∧ t.chart k = (if c = true then g.chart else s.chart k)
      ∧ (t.staging k).profile = (if p = true then none else g.profile)
      ∧ (∀ i : Fin 16, (t.staging k).map[i] = if m = true then none else g.map[i])
      ∧ (t.staging k).chart = (if c = true then none else g.chart) ∧ (t.staging k).policy = g.policy
      ∧ (∀ j, j ≠ k → t.profile j = s.profile j ∧ t.map j = s.map j ∧ t.chart j = s.chart j
          ∧ t.staging j = s.staging j)
      ∧ t = { s with site := { s.site with profiles := t.site.profiles, maps := t.site.maps, charts := t.site.charts,
                                           staging := t.site.staging }, sent := t.sent }

/-- A COMMIT of profile, map or chart that passes its tests in OPERATING while the crane is not at rest is answered PENDING:
the tables named become the crane's pending structural commit with the request's tag, the slots are emptied, and no active
table changes; a commit that was pending is reported REPLACED with its tag (R13, R16, R17, R163; bytes 6 and 7 of the value
are log 40). -/
def Obligations.StructuralCommitWaitsForRest : Prop :=
  ∀ (tag : Byte) (tgt : Target) (set : Byte) (k : Crane) (p m c : Bool) (s : State),
    let g := s.site.staging[k]
    let w : StructuralCommit := { profile := named p g.profile, map := named m (stagedMap g), chart := named c g.chart,
                                  blocked := false }
    let after := tablesWith s k w
    targetCrane tgt = some k → tableSetOf set = some (.structural p m c) → s.mode = .operating →
    atRest s k = false → (p = true → g.profile.isSome = true) → (m = true → (stagedMap g).isSome = true) →
    (c = true → g.chart.isSome = true) → (p = true → after.isPresent = cranePresent s k) →
    ((m || c) = true → after.isPresent = true) → allChecks s k after true = none →
    ∃ t, exec (.commit tag tgt set) s = .next t
      ∧ t.sent = s.sent ++ [responseFrame .commit tag .pending]
      ∧ t.site.structural[k] = some w ∧ t.mgmt.structuralTag[k] = some tag
      ∧ (t.staging k).profile = (if p = true then none else g.profile)
      ∧ (∀ i : Fin 16, (t.staging k).map[i] = if m = true then none else g.map[i])
      ∧ (t.staging k).chart = (if c = true then none else g.chart) ∧ (t.staging k).policy = g.policy
      ∧ (s.site.structural[k] = none → t.recorder = s.recorder)
      ∧ (∀ old, s.site.structural[k] = some old → t.recorder = (offer
            { kind := .commitResult, crane := some k,
              value := ((s.mgmt.structuralTag[k]).map (·.toNat)).getD 0 * 256 + 2 } s).recorder)
      ∧ (∀ j, j ≠ k → t.staging j = s.staging j ∧ t.site.structural[j] = s.site.structural[j]
          ∧ t.mgmt.structuralTag[j] = s.mgmt.structuralTag[j])
      ∧ t = { s with site := { s.site with staging := t.site.staging, structural := t.site.structural },
                     recorder := t.recorder, mgmt := { s.mgmt with structuralTag := t.mgmt.structuralTag },
                     sent := t.sent }

/-- A COMMIT of a wind policy for a present crane that passes check 7: in CONFIG it is active at once and answered DONE, in
OPERATING it becomes the crane's pending policy commit with the request's tag, is answered PENDING, and the active policy
stays (R13, R14, R19, R163). -/
def Obligations.PolicyCommitAppliesOrWaits : Prop :=
  ∀ (tag : Byte) (tgt : Target) (k : Crane) (p : Policy) (s : State), targetCrane tgt = some k →
    (s.site.staging[k]).policy = some p → cranePresent s k = true → check7 p = true → s.site.policyCommit[k] = none →
    ∃ t, exec (.commit tag tgt 8#8) s = .next t
      ∧ t.staging k = { s.site.staging[k] with policy := none }
      ∧ (s.mode = .config → t.policy k = some p ∧ t.site.policyCommit = s.site.policyCommit
          ∧ t.mgmt = s.mgmt ∧ t.sent = s.sent ++ [responseFrame .commit tag .ok])
      ∧ (s.mode = .operating → t.policy k = s.policy k ∧ t.site.policyCommit[k] = some p
          ∧ t.mgmt.policyTag[k] = some tag ∧ t.sent = s.sent ++ [responseFrame .commit tag .pending])
      ∧ (∀ j, j ≠ k → t.policy j = s.policy j ∧ t.staging j = s.staging j
          ∧ t.site.policyCommit[j] = s.site.policyCommit[j] ∧ t.mgmt.policyTag[j] = s.mgmt.policyTag[j])
      ∧ t = { s with site := { s.site with policies := t.site.policies, staging := t.site.staging,
                                           policyCommit := t.site.policyCommit },
                     mgmt := { s.mgmt with policyTag := t.mgmt.policyTag }, sent := t.sent }

/-- A COMMIT of a complete zone table that passes the presence test and the hook heights test applies at once in both modes:
the table is active, its staging empty, a zone that stays present keeps its override and every other present zone has its base
permissions, and no grant or permission is left on a zone that is not present (R13, R20, R69). -/
def Obligations.ZoneTableCommitApplies : Prop :=
  ∀ (tag : Byte) (tgt : Target) (table : ZoneTable) (s : State), targetIsSite tgt = true →
    stagedZoneTable s = some table → presenceConflicts s table = [] → heightConflict s table = none →
    ∃ t, exec (.commit tag tgt 16#8) s = .next t
      ∧ t.sent = s.sent ++ [responseFrame .commit tag .ok]
      ∧ t.site.zoneTable = some table ∧ (∀ i : Fin 4, t.site.zoneStaging[i] = none)
      ∧ (∀ z : Zone, table[z].present = true → zonePresent s z = true → (s.perm z).override = true →
          t.perm z = s.perm z)
      ∧ (∀ z : Zone, table[z].present = true → ¬(zonePresent s z = true ∧ (s.perm z).override = true) →
          t.perm z = ⟨table[z].base, false, none⟩)
      ∧ (∀ z : Zone, table[z].present = false → t.perm z = ⟨⟨false, false⟩, false, none⟩)
      ∧ (∀ g, g ∈ t.access.grants ↔ g ∈ s.access.grants ∧ table[g.zone].present = true)
      ∧ t = { s with site := { s.site with zoneTable := t.site.zoneTable, zoneStaging := t.site.zoneStaging },
                     air := t.air, access := t.access, vanes := t.vanes, recorder := t.recorder, sent := t.sent }

/-! ### Modes and resets -/

/-- COMMENCE in CONFIG with a site image that passes: the mode becomes OPERATING, every present crane's monitor RUNNING and
control state RUN, every crane is marked settling, and the response is DONE. Cranes that are not present keep control state
and monitor; lane and cab states, poses, tables, permissions, grants, counters, capture settings and the site clock stay
(R21, R35, R103, R164). -/
def Obligations.CommenceStartsOperating : Prop :=
  ∀ (tag : Byte) (tgt : Target) (s : State), targetIsSite tgt = true → s.mode = .config → judgeImage s = none →
    ∃ t, exec (.commence tag tgt) s = .next t
      ∧ t.sent = s.sent ++ [responseFrame .commence tag .ok]
      ∧ t.mode = .operating
      ∧ (∀ k, (t.arb k).settling = true)
      ∧ (∀ k, cranePresent s k = true → (t.wind k).running = true ∧ (t.wind k).window = []
          ∧ ((t.wind k).level = .calm ∨ (t.wind k).level = .stow) ∧ t.lane k = { s.lane k with control := .run })
      ∧ (∀ k, cranePresent s k = false → t.wind k = s.wind k ∧ t.lane k = s.lane k)
      ∧ t.recorder.counters = s.recorder.counters ∧ t.recorder.settings = s.recorder.settings
      ∧ t.recorder.capture = s.recorder.capture ∧ t.recorder.missed = s.recorder.missed
      ∧ t = { s with mode := t.mode, lanes := t.lanes, air := t.air, winds := t.winds, vanes := t.vanes,
                     bookings := t.bookings, recorder := t.recorder, sent := t.sent }

/-- SITE RESET in either mode: the mode becomes CONFIG and every block takes the values its chapter gives; the active tables,
the site clock, the reporting settings and the bookings that are not ACTIVE stay; ACTIVE bookings are SUSPENDED, or LAPSED
with OVERTIME set, with the reason RESET (R22, R27, R43, R68, R72, R83, R102, R103, R131, R145, R146, R151, R158, R160, R163,
R165). That the assembly of request frames stays is the model's reading, log 47. -/
def Obligations.SiteResetTakesResetValues : Prop :=
  ∀ (tag : Byte) (tgt : Target) (s : State), targetIsSite tgt = true →
    ∃ t, exec (.siteReset tag tgt) s = .next t
      ∧ t.sent = s.sent ++ [responseFrame .siteReset tag .ok]
      ∧ t.mode = .config
      ∧ (∀ k : Crane,
          t.lane k = { state := .syncing, syncRun := 0, lastSeq := none, tstale := none, tlost := none, cab := .silent,
                       tcab := none, control := .halted, lastStep := none, lastAnswer := none, outSeq := 0,
                       clamps := ⟨false, false, false⟩ }
          ∧ t.pose k = none
          ∧ t.arb k = { motionWait := none, reservation := none, lastReload := s.now, reloadCause := none,
                        yieldZone := none, overlaps := [], settling := false }
          ∧ t.govRec k = { requested := ⟨0, 0, 0⟩, output := ⟨0, 0, 0⟩, permitted := ⟨none, none, none⟩,
                           boundary := ⟨none, none, none⟩, chartMark := .clear, overrunMark := false }
          ∧ t.wind k = { running := false, level := .calm, last := none, pending := none, window := [], mean := none,
                         figure := none, raiseAlert := 0, raiseHold := 0, raiseStow := 0, clearCount := 0, faultRun := 0,
                         faultMark := false }
          ∧ t.vane k = { state := .none, start := none, timeout := none, blocked := false }
          ∧ (t.staging k).profile = none ∧ (t.staging k).chart = none ∧ (t.staging k).policy = none
          ∧ (∀ i : Fin 16, (t.staging k).map[i] = none)
          ∧ t.site.structural[k] = none ∧ t.site.policyCommit[k] = none
          ∧ t.mgmt.structuralTag[k] = none ∧ t.mgmt.policyTag[k] = none
          ∧ (t.recorder.reports[k]).stamp = none
          ∧ ∀ i : Fin 9, (t.recorder.counters[k])[i] = ⟨0, false⟩ ∧ (t.recorder.reports[k]).values[i] = ⟨0, false⟩)
      ∧ (∀ z : Zone, t.zone z = { st := .free, vacate := false, sweepPending := none, queue := [] }
          ∧ t.perm z = ⟨basePerms s z, false, none⟩)
      ∧ t.access.grants = [] ∧ (∀ i : Fin 4, t.site.zoneStaging[i] = none)
      ∧ t.recorder.queue = [] ∧ t.recorder.overflow = 0 ∧ t.recorder.capture = none ∧ t.recorder.missed = 0
      ∧ t.recorder.settings = s.recorder.settings
      ∧ t.recorder.transferTimer = (if s.recorder.settings.interval = 0 then none
          else some (s.now + 1000 * s.recorder.settings.interval))
      ∧ (TableSound s.bookings → t.bookings = s.bookings.map fun b =>
          if b.state = .active then
            { b with state := if b.overtime = true then .lapsed else .suspended, reason := some .reset,
                     suspensions := min 255 (b.suspensions + 1),
                     outcome := if b.overtime = true then { b.outcome with endTime := some s.clock.siteTime }
                       else b.outcome }
          else b)
      ∧ t.site.profiles = s.site.profiles ∧ t.site.maps = s.site.maps ∧ t.site.charts = s.site.charts
      ∧ t.site.policies = s.site.policies ∧ t.site.zoneTable = s.site.zoneTable
      ∧ t.now = s.now ∧ t.clock = s.clock ∧ t.mgmt.assembly = s.mgmt.assembly ∧ t.pending = s.pending

/-- CRANE RESTART in either mode: the crane's lane, pose record, Zone Arbiter, Motion Governor, Vane Control and Wind Monitor
records and live counters take their restart values, its cab state, Tcab and outgoing sequence number stay; in OPERATING it
gives up no hold and each becomes FROZEN or stays EXIT_ONLY; its ACTIVE booking is suspended with the reason LANE. Its
counter report record, tables, staging and pending commits, the grants, the capture and every other crane's lane, pose,
motion and wind records stay (R22, R27, R45, R66, R103, R131, R151, R166). That the bytes in progress on the ports and the
assembly of request frames stay is the model's choice, logs 25 and 47. -/
def Obligations.CraneRestartTakesRestartValues : Prop :=
  ∀ (tag : Byte) (tgt : Target) (k : Crane) (s : State), targetCrane tgt = some k →
    ∃ t, exec (.craneRestart tag tgt) s = .next t
      ∧ t.sent = s.sent ++ [responseFrame .craneRestart tag .ok]
      ∧ t.lane k = { state := .syncing, syncRun := 0, lastSeq := none, tstale := none, tlost := none,
                     cab := (s.lane k).cab, tcab := (s.lane k).tcab, control := .halted, lastStep := none,
                     lastAnswer := none, outSeq := (s.lane k).outSeq, clamps := ⟨false, false, false⟩ }
      ∧ t.pose k = none
      ∧ t.arb k = { motionWait := none, reservation := none, lastReload := s.now, reloadCause := none,
                    yieldZone := none, overlaps := [], settling := false }
      ∧ t.govRec k = { requested := ⟨0, 0, 0⟩, output := ⟨0, 0, 0⟩, permitted := ⟨none, none, none⟩,
                       boundary := ⟨none, none, none⟩, chartMark := .clear, overrunMark := false }
      ∧ t.vane k = { state := .none, start := none, timeout := none, blocked := false }
      ∧ t.wind k = { running := s.mode == .operating && cranePresent s k, level := .calm, last := none, pending := none,
                     window := [], mean := none, figure := none, raiseAlert := 0, raiseHold := 0, raiseStow := 0,
                     clearCount := 0, faultRun := 0, faultMark := false }
      ∧ (∀ i : Fin 9, (t.recorder.counters[k])[i] = ⟨0, false⟩) ∧ t.recorder.reports = s.recorder.reports
      ∧ (∀ j, j ≠ k → t.lane j = s.lane j ∧ t.pose j = s.pose j ∧ t.govRec j = s.govRec j ∧ t.wind j = s.wind j
          ∧ t.recorder.counters[j] = s.recorder.counters[j])
      ∧ (s.mode = .operating →
          (∀ z kind taken, (s.zone z).st = .held k kind taken →
            (t.zone z).st = .held k (if kind = .exitOnly then .exitOnly else .frozen) taken)
          ∧ (∀ z taken, (s.zone z).st = .swept k taken → (t.zone z).st = .held k .frozen taken)
          ∧ (∀ z, (t.zone z).sweepPending ≠ some k)
          ∧ ∀ z j, j ≠ k → (s.zone z).holder = some j → (t.zone z).st = (s.zone z).st)
      ∧ (∀ b, activeBooking s k = some b → ∃ b' ∈ t.bookings,
          b'.id = b.id ∧ b'.state = (if b.overtime = true then .lapsed else .suspended) ∧ b'.reason = some .lane)
      ∧ t.recorder.settings = s.recorder.settings ∧ t.recorder.capture = s.recorder.capture
      ∧ t.recorder.missed = s.recorder.missed ∧ t.recorder.transferTimer = s.recorder.transferTimer
      ∧ t = { s with lanes := t.lanes, poses := t.poses, air := t.air, gov := t.gov, winds := t.winds,
                     vanes := t.vanes, bookings := t.bookings, recorder := t.recorder, sent := t.sent }

/-! ### The site clock -/

/-- A site second raises site time by one, up to 4,294,967,295, and moves the second start on by 1,000 ms; nothing else
changes. SET SITE TIME: site time becomes t and the second start the present instant, and the response is DONE. Set backward or to
the present second it takes no expiry. Set forward it takes every pending expiry up to t: none at or before t is left (R167,
R168; log 3, log 4, log 20). -/
def Obligations.SiteTimeRisesAndIsSet : Prop :=
  (∀ s : State, exec .siteSecond s = .next
    { s with now := max s.now (s.clock.secondStart + 1000)
             clock := ⟨min 4294967295 (s.clock.siteTime + 1), s.clock.secondStart + 1000⟩ })
  ∧ ∀ (tag : Byte) (tgt : Target) (x : Nat) (s : State), targetIsSite tgt = true →
    (x ≤ s.clock.siteTime →
      exec (.setSiteTime tag tgt x) s = .next
        { s with clock := ⟨x, s.now⟩, sent := s.sent ++ [responseFrame .setSiteTime tag .ok] })
    ∧ (s.clock.siteTime < x → TableSound s.bookings →
      ∃ t, exec (.setSiteTime tag tgt x) s = .next t
        ∧ t.sent = s.sent ++ [responseFrame .setSiteTime tag .ok] ∧ t.clock = ⟨x, s.now⟩
        ∧ (∀ d ∈ siteDues t, x < d.1)
        ∧ ((∀ d ∈ siteDues s, x < d.1) → t = { s with clock := t.clock, sent := t.sent })
        ∧ t = { s with clock := t.clock, air := t.air, access := t.access, vanes := t.vanes, bookings := t.bookings,
                       recorder := t.recorder, sent := t.sent, freeCount := t.freeCount })

/-! ### Wind, vaning and motion -/

/-- The mean: absent it becomes the sample; otherwise it moves by ⌈(x − m) / 2^k⌉, rising at least 1 and never past the
sample, falling not at all within 2^k − 1 of it, and steady at it. So it lies between the smallest and the largest sample
received, whatever the policies' shifts, and stays where it is under a steady wind up to 2^k − 1 below it (R111). -/
def Obligations.MeanFollowsTheWind : Prop :=
  (∀ (w : WindRec) (p : Policy) (x : Nat), ∃ m', (w.advance p x).mean = some m'
      ∧ (w.mean = none → m' = x)
      ∧ ∀ m, w.mean = some m →
          (m' : ℤ) = m + ⌈((x : ℚ) - m) / 2 ^ p.meanShift⌉
            ∧ (m < x → m + 1 ≤ m' ∧ m' ≤ x)
            ∧ (x < m → x ≤ m' ∧ m' ≤ m)
            ∧ (x ≤ m → m - x < 2 ^ p.meanShift → m' = m)
            ∧ (x = m → m' = m))
    ∧ ∀ (w : WindRec) (samples : List (Policy × Nat)), samples ≠ [] → w.mean = none →
        ∃ m, (samples.foldl (fun (v : WindRec) (q : Policy × Nat) => v.advance q.1 q.2) w).mean = some m
          ∧ (∃ q ∈ samples, q.2 ≤ m) ∧ ∃ q ∈ samples, m ≤ q.2

/-- A qualified sample is appended to the gust window, which keeps the latest Ng samples; the gust is the largest of them,
and the wind figure is the larger of the mean and ⌊gust × weight / 16⌋ (R110, R112). -/
def Obligations.GustAndWindFigure : Prop :=
  ∀ (w : WindRec) (p : Policy) (x : Nat), 1 ≤ p.ng → w.window.length ≤ p.ng →
    let v := w.advance p x
    v.last = some x
      ∧ v.window = (if w.window.length < p.ng then w.window ++ [x] else w.window.drop 1 ++ [x])
      ∧ ∃ g m, g ∈ v.window ∧ (∀ y ∈ v.window, y ≤ g) ∧ v.mean = some m
          ∧ v.figure = some (max m ⌊(g : ℚ) * p.gustWeight / 16⌋₊)
          ∧ v = { w with last := v.last, window := v.window, mean := v.mean, figure := v.figure }

/-- The permitted speed at a distance d: 0 when d is zero or negative, otherwise the largest v up to Vcap with S(v) ≤ d, so
every lower speed also stops within d; Vcap with no boundary; and Figure 5-1's axis. The stopping distance S(v) =
⌈v·T / 1000⌉ + ⌈v² / (2A)⌉ is 0 at 0 and never becomes smaller as v grows; over the ranges of a profile its largest value is
8,008,000 (R81, R82). -/
def Obligations.PermittedSpeedIsTheLargestThatStops : Prop :=
  (∀ (a : AxisDyn) (d : Int), d ≤ 0 → permittedSpeed a d = 0)
    ∧ (∀ (a : AxisDyn) (d : Int), 1 ≤ a.decel → 0 < d →
        permittedSpeed a d ≤ a.vcap ∧ (stopDist a (permittedSpeed a d) : Int) ≤ d
          ∧ (∀ v, v ≤ a.vcap → (stopDist a v : Int) ≤ d → v ≤ permittedSpeed a d)
          ∧ ∀ v, v ≤ permittedSpeed a d → (stopDist a v : Int) ≤ d)
    ∧ (∀ a : AxisDyn, boundSpeed a none = a.vcap)
    ∧ (∀ (a : AxisDyn) (d : Int) (cs : List Cause), boundSpeed a (some ⟨some d, cs⟩) = permittedSpeed a d)
    ∧ (∀ (vcap clearance : Nat), 12 ≤ vcap →
        let a : AxisDyn := ⟨vcap, 5, 300, clearance⟩
        [8, 9, 10, 11, 12].map (stopDist a) = [10, 12, 13, 17, 19]
          ∧ [12, 13, 14, 15, 16, 17, 18, 19].map (fun d : Int => permittedSpeed a d) = [9, 10, 10, 10, 10, 11, 11, 12])
    ∧ (∀ (a : AxisDyn) (v : Nat), 1 ≤ a.decel →
        stopDist a v = ⌈(v : ℚ) * a.reaction / 1000⌉₊ + ⌈(v : ℚ) ^ 2 / (2 * a.decel)⌉₊)
    ∧ (∀ a : AxisDyn, 1 ≤ a.decel → stopDist a 0 = 0)
    ∧ (∀ (a : AxisDyn) (u v : Nat), u ≤ v → stopDist a u ≤ stopDist a v)
    ∧ (∀ (a : AxisDyn) (v : Nat), 1 ≤ a.decel → a.reaction ≤ 2000 → v ≤ 4000 → stopDist a v ≤ 8008000)
    ∧ ∀ (vcap clearance : Nat), stopDist ⟨vcap, 1, 2000, clearance⟩ 4000 = 8008000

/-- When the vane timeout of a crane that is PREPARING comes, its blocked flag is set, VANE_BLOCKED is reported with the
lowest zone still pending and their number, and the capture trigger is offered; no zone record, no mark and no state of any
crane changes (R124; log 3). -/
def Obligations.VaneTimeoutBlocksThePreparation : Prop :=
  ∀ (k : Crane) (x : Nat) (s : State), (s.vane k).state = .preparing → (s.vane k).blocked = false →
    (s.vane k).timeout = some x →
    let zs := allZones.filter fun z => decide ((s.zone z).sweepPending = some k)
    ∃ t, exec (.vaneTimeout k) s = .next t
      ∧ t.now = max s.now x
      ∧ t.vane k = { s.vane k with blocked := true } ∧ (∀ j, j ≠ k → t.vane j = s.vane j)
      ∧ t.recorder = (trigger .vaneBlocked (some k) zs.head?
          (offer { kind := .vaneBlocked, crane := some k, zone := zs.head?, value := zs.length }
            (s.waitUntil x))).recorder
      ∧ t = { s with now := t.now, vanes := t.vanes, recorder := t.recorder }

/-- RESUME CRANE for a present crane that is VANING at a level below STOW: its vane record becomes NONE, no zone stays SWEPT
or pending for it, a swept zone under its footprint stays its own from its old instant, and the response is DONE; the control
state and every lane stay. At level STOW it is refused NOT_PERMITTED, and outside VANING BAD_STATE (R125, R127). -/
def Obligations.ResumeCraneEndsVaning : Prop :=
  ∀ (tag : Byte) (tgt : Target) (k : Crane) (s : State), targetCrane tgt = some k → cranePresent s k = true →
    ((s.vane k).state = .vaning → (s.wind k).level ≠ .stow →
      ∃ t, exec (.resumeCrane tag tgt) s = .next t
        ∧ t.sent = s.sent ++ [responseFrame .resumeCrane tag .ok]
        ∧ t.vane k = { state := .none, start := none, timeout := none, blocked := false }
        ∧ (∀ z, (t.zone z).sweptFor ≠ some k ∧ (t.zone z).sweepPending ≠ some k)
        ∧ (∀ z taken, (s.zone z).st = .swept k taken → (useIn (footprint s k) z).isSome = true →
            ∃ kind, (t.zone z).st = .held k kind taken)
        ∧ (∀ z j, j ≠ k → (s.zone z).holder = some j → (t.zone z).holder = some j)
        ∧ t = { s with air := t.air, vanes := t.vanes, bookings := t.bookings, recorder := t.recorder, sent := t.sent })
    ∧ ((s.vane k).state = .vaning → (s.wind k).level = .stow →
      exec (.resumeCrane tag tgt) s
        = .next { s with sent := s.sent ++ [responseFrame .resumeCrane tag (.no .notPermitted)] })
    ∧ ((s.vane k).state ≠ .vaning →
      exec (.resumeCrane tag tgt) s
        = .next { s with sent := s.sent ++ [responseFrame .resumeCrane tag (.no .badState)] })

/-! ### Bookings -/

/-- BOOK LIFT that passes the tests of Figure 8-2 stores its record, OPEN when its window is open and LOGGED otherwise,
reports BOOKING_STATE and is answered DONE; no other record changes (R132 to R134; that the target is the booking id is log
8, that the new record stands last log 31, and byte 9 of the value log 40). -/
def Obligations.BookLiftStoresItsRecord : Prop :=
  ∀ (tag : Byte) (tgt : Target) (id : Nat) (p : LiftPlan) (k : Crane) (route : List Zone) (prof : Profile) (c : Chart)
    (s : State),
    targetBooking tgt = some id → s.bookings.length < 32 → 1 ≤ id → (∀ b ∈ s.bookings, b.id ≠ id) →
    p.crane = k.val + 1 → s.profile k = some prof → prof.present = true → s.chart k = some c →
    p.opens < p.closes → s.clock.siteTime < p.closes →
    p.route.take p.routeCount = route.map zoneNum → route.length = p.routeCount → 1 ≤ p.routeCount →
    p.routeCount ≤ 6 → (∀ z ∈ route, zonePresent s z = true) → route.Nodup →
    p.pickSector ≤ 255 → p.setSector ≤ 255 → prof.rmin ≤ p.pickRadius → p.pickRadius ≤ prof.rmax →
    prof.rmin ≤ p.setRadius → p.setRadius ≤ prof.rmax → p.load ≤ 20000 →
    p.load ≤ ratedLoad 0 c p.pickRadius → p.load ≤ ratedLoad 0 c p.setRadius →
    (∀ b ∈ s.bookings, b.crane = k → b.state ∈ [BookingState.logged, .opened, .active, .suspended] →
      b.closes ≤ p.opens ∨ p.closes ≤ b.opens) →
    let b : Booking :=
      { id := id, crane := k, opens := p.opens, closes := p.closes, load := p.load, pickSector := p.pickSector,
        pickRadius := p.pickRadius, setSector := p.setSector, setRadius := p.setRadius, route := route,
        state := if p.opens ≤ s.clock.siteTime then .opened else .logged, leg := 0, overtime := false, reason := none,
        suspensions := 0, outcome := ⟨none, none, none, none, none, none⟩ }
    ∃ t, exec (.bookLift tag tgt p) s = .next t
      ∧ t.sent = s.sent ++ [responseFrame .bookLift tag .ok]
      ∧ t.bookings = s.bookings ++ [b]
      ∧ t.recorder = (offer { kind := .bookingState, crane := some k, booking := some id,
                              value := bookingCode b.state * 16777216 } s).recorder
      ∧ t = { s with bookings := t.bookings, recorder := t.recorder, sent := t.sent }

/-- CANCEL BOOKING makes a booking that is not terminal CANCELLED, recording the end time of a lift in flight and giving up
the BOOKING holds and the reservation of an ACTIVE one; RETIRE BOOKING removes a terminal record. Each refuses the other's
bookings BAD_STATE and an unknown id BAD_TARGET (R141, R144, R150). -/
def Obligations.CancelAndRetireBooking : Prop :=
  ∀ (tag : Byte) (tgt : Target) (id : Nat) (s : State), targetBooking tgt = some id →
    (∀ b, findBooking s id = some b →
      (b.state ∈ [BookingState.logged, .opened, .active, .suspended] →
        (∃ t, exec (.cancelBooking tag tgt) s = .next t
          ∧ t.sent = s.sent ++ [responseFrame .cancelBooking tag .ok]
          ∧ t.bookings = s.bookings.map (fun c => if c.id = id then
              { c with state := .cancelled, outcome :=
                  if b.state = .active ∨ b.state = .suspended then
                    { c.outcome with endTime := some s.clock.siteTime }
                  else c.outcome } else c)
          ∧ (b.state ≠ .active → t.air = s.air ∧ t.vanes = s.vanes)
          ∧ (b.state = .active → TableSound s.bookings → (t.arb b.crane).reservation = none
              ∧ ∀ z taken, (t.zone z).st ≠ .held b.crane .booking taken)
          ∧ t = { s with air := t.air, vanes := t.vanes, bookings := t.bookings, recorder := t.recorder,
                         sent := t.sent })
        ∧ exec (.retireBooking tag tgt) s
            = .next { s with sent := s.sent ++ [responseFrame .retireBooking tag (.no .badState)] })
      ∧ (b.state ∈ [BookingState.done, .lapsed, .cancelled] →
        exec (.retireBooking tag tgt) s
            = .next { s with bookings := s.bookings.filter fun c => decide (c.id ≠ id)
                             sent := s.sent ++ [responseFrame .retireBooking tag .ok] }
        ∧ exec (.cancelBooking tag tgt) s
            = .next { s with sent := s.sent ++ [responseFrame .cancelBooking tag (.no .badState)] }))
    ∧ (findBooking s id = none →
      exec (.retireBooking tag tgt) s
          = .next { s with sent := s.sent ++ [responseFrame .retireBooking tag (.no .badTarget)] }
      ∧ exec (.cancelBooking tag tgt) s
          = .next { s with sent := s.sent ++ [responseFrame .cancelBooking tag (.no .badTarget)] })

/-- The window events: the open event makes a LOGGED booking OPEN; the close event makes an OPEN or SUSPENDED one LAPSED, with
the end time of a suspended one, and sets the OVERTIME flag of an ACTIVE one, which stays ACTIVE; each is reported. No zone
changes (R134, R135, R148; log 3; byte 9 of the value is log 40). -/
def Obligations.WindowEventsTakeTheirEffect : Prop :=
  ∀ (id : Nat) (b : Booking) (s : State), findBooking s id = some b →
    let report (at_ code : Nat) : Recorder := (offer
      { kind := .bookingState, crane := some b.crane, booking := some id, value := code * 16777216 + b.leg * 65536 }
      (s.waitSite at_)).recorder
    (b.state = .logged →
      ∃ t, exec (.windowOpenEvent id) s = .next t
        ∧ t.clock.siteTime = max s.clock.siteTime b.opens
        ∧ t.bookings = s.bookings.map (fun c => if c.id = id then { c with state := .opened } else c)
        ∧ t.recorder = report b.opens 4
        ∧ t = { s with now := t.now, clock := t.clock, bookings := t.bookings, recorder := t.recorder })
    ∧ (b.state = .opened ∨ b.state = .suspended →
      ∃ t, exec (.windowCloseEvent id) s = .next t
        ∧ t.clock.siteTime = max s.clock.siteTime b.closes
        ∧ t.bookings = s.bookings.map (fun c => if c.id = id then
            { c with state := .lapsed, outcome :=
                if b.state = .suspended then { c.outcome with endTime := some t.clock.siteTime } else c.outcome } else c)
        ∧ t.recorder = report b.closes 6
        ∧ t = { s with now := t.now, clock := t.clock, bookings := t.bookings, recorder := t.recorder })
    ∧ (b.state = .active → b.overtime = false →
      ∃ t, exec (.windowCloseEvent id) s = .next t
        ∧ t.clock.siteTime = max s.clock.siteTime b.closes
        ∧ t.bookings = s.bookings.map (fun c => if c.id = id then { c with overtime := true } else c)
        ∧ t.recorder = report b.closes 8
        ∧ t = { s with now := t.now, clock := t.clock, bookings := t.bookings, recorder := t.recorder })
end

