-- ==== Sys2Proof/Laws/State.lean ====
section
/-! SUPPORT. One lemma per field per update of the state, and what each update does to each record read back. -/

namespace Sys2Proof.Machine.State

set_option Elab.async false

variable (s : State)

/-! ### setLane -/

@[simp] theorem setLane_mode (k : Crane) (l : Lane) : (s.setLane k l).mode = s.mode := rfl
@[simp] theorem setLane_now (k : Crane) (l : Lane) : (s.setLane k l).now = s.now := rfl
@[simp] theorem setLane_clock (k : Crane) (l : Lane) : (s.setLane k l).clock = s.clock := rfl
@[simp] theorem setLane_lanes (k : Crane) (l : Lane) : (s.setLane k l).lanes = s.lanes.set k l := rfl
@[simp] theorem setLane_poses (k : Crane) (l : Lane) : (s.setLane k l).poses = s.poses := rfl
@[simp] theorem setLane_site (k : Crane) (l : Lane) : (s.setLane k l).site = s.site := rfl
@[simp] theorem setLane_air (k : Crane) (l : Lane) : (s.setLane k l).air = s.air := rfl
@[simp] theorem setLane_access (k : Crane) (l : Lane) : (s.setLane k l).access = s.access := rfl
@[simp] theorem setLane_gov (k : Crane) (l : Lane) : (s.setLane k l).gov = s.gov := rfl
@[simp] theorem setLane_winds (k : Crane) (l : Lane) : (s.setLane k l).winds = s.winds := rfl
@[simp] theorem setLane_vanes (k : Crane) (l : Lane) : (s.setLane k l).vanes = s.vanes := rfl
@[simp] theorem setLane_bookings (k : Crane) (l : Lane) : (s.setLane k l).bookings = s.bookings := rfl
@[simp] theorem setLane_recorder (k : Crane) (l : Lane) : (s.setLane k l).recorder = s.recorder := rfl
@[simp] theorem setLane_mgmt (k : Crane) (l : Lane) : (s.setLane k l).mgmt = s.mgmt := rfl
@[simp] theorem setLane_line (k : Crane) (l : Lane) : (s.setLane k l).line = s.line := rfl
@[simp] theorem setLane_pending (k : Crane) (l : Lane) : (s.setLane k l).pending = s.pending := rfl
@[simp] theorem setLane_sent (k : Crane) (l : Lane) : (s.setLane k l).sent = s.sent := rfl
@[simp] theorem setLane_freeCount (k : Crane) (l : Lane) : (s.setLane k l).freeCount = s.freeCount := rfl
@[simp] theorem setLane_lane_self (k : Crane) (l : Lane) : (s.setLane k l).lane k = l := by simp [lane, setLane]
theorem setLane_lane_ne (k : Crane) (l : Lane) (j : Crane) (h : j ≠ k) : (s.setLane k l).lane j = s.lane j := by
  simp [lane, setLane, Fin.val_ne_of_ne (Ne.symm h)]
theorem setLane_lane (k : Crane) (l : Lane) (j : Crane) : (s.setLane k l).lane j = if j = k then l else s.lane j := by
  by_cases h : j = k
  · subst h; simp
  · simp [h, setLane_lane_ne s _ _ j h]
@[simp] theorem setLane_pose (k : Crane) (l : Lane) (j : Crane) : (s.setLane k l).pose j = s.pose j := rfl
@[simp] theorem setLane_govRec (k : Crane) (l : Lane) (j : Crane) : (s.setLane k l).govRec j = s.govRec j := rfl
@[simp] theorem setLane_wind (k : Crane) (l : Lane) (j : Crane) : (s.setLane k l).wind j = s.wind j := rfl
@[simp] theorem setLane_vane (k : Crane) (l : Lane) (j : Crane) : (s.setLane k l).vane j = s.vane j := rfl
@[simp] theorem setLane_zone (k : Crane) (l : Lane) (y : Zone) : (s.setLane k l).zone y = s.zone y := rfl
@[simp] theorem setLane_arb (k : Crane) (l : Lane) (j : Crane) : (s.setLane k l).arb j = s.arb j := rfl
@[simp] theorem setLane_perm (k : Crane) (l : Lane) (y : Zone) : (s.setLane k l).perm y = s.perm y := rfl
@[simp] theorem setLane_profile (k : Crane) (l : Lane) (j : Crane) : (s.setLane k l).profile j = s.profile j := rfl
@[simp] theorem setLane_map (k : Crane) (l : Lane) (j : Crane) : (s.setLane k l).map j = s.map j := rfl
@[simp] theorem setLane_chart (k : Crane) (l : Lane) (j : Crane) : (s.setLane k l).chart j = s.chart j := rfl
@[simp] theorem setLane_policy (k : Crane) (l : Lane) (j : Crane) : (s.setLane k l).policy j = s.policy j := rfl

/-! ### setPose -/

@[simp] theorem setPose_mode (k : Crane) (p : Option Pose) : (s.setPose k p).mode = s.mode := rfl
@[simp] theorem setPose_now (k : Crane) (p : Option Pose) : (s.setPose k p).now = s.now := rfl
@[simp] theorem setPose_clock (k : Crane) (p : Option Pose) : (s.setPose k p).clock = s.clock := rfl
@[simp] theorem setPose_lanes (k : Crane) (p : Option Pose) : (s.setPose k p).lanes = s.lanes := rfl
@[simp] theorem setPose_poses (k : Crane) (p : Option Pose) : (s.setPose k p).poses = s.poses.set k p := rfl
@[simp] theorem setPose_site (k : Crane) (p : Option Pose) : (s.setPose k p).site = s.site := rfl
@[simp] theorem setPose_air (k : Crane) (p : Option Pose) : (s.setPose k p).air = s.air := rfl
@[simp] theorem setPose_access (k : Crane) (p : Option Pose) : (s.setPose k p).access = s.access := rfl
@[simp] theorem setPose_gov (k : Crane) (p : Option Pose) : (s.setPose k p).gov = s.gov := rfl
@[simp] theorem setPose_winds (k : Crane) (p : Option Pose) : (s.setPose k p).winds = s.winds := rfl
@[simp] theorem setPose_vanes (k : Crane) (p : Option Pose) : (s.setPose k p).vanes = s.vanes := rfl
@[simp] theorem setPose_bookings (k : Crane) (p : Option Pose) : (s.setPose k p).bookings = s.bookings := rfl
@[simp] theorem setPose_recorder (k : Crane) (p : Option Pose) : (s.setPose k p).recorder = s.recorder := rfl
@[simp] theorem setPose_mgmt (k : Crane) (p : Option Pose) : (s.setPose k p).mgmt = s.mgmt := rfl
@[simp] theorem setPose_line (k : Crane) (p : Option Pose) : (s.setPose k p).line = s.line := rfl
@[simp] theorem setPose_pending (k : Crane) (p : Option Pose) : (s.setPose k p).pending = s.pending := rfl
@[simp] theorem setPose_sent (k : Crane) (p : Option Pose) : (s.setPose k p).sent = s.sent := rfl
@[simp] theorem setPose_freeCount (k : Crane) (p : Option Pose) : (s.setPose k p).freeCount = s.freeCount := rfl
@[simp] theorem setPose_lane (k : Crane) (p : Option Pose) (j : Crane) : (s.setPose k p).lane j = s.lane j := rfl
@[simp] theorem setPose_pose_self (k : Crane) (p : Option Pose) : (s.setPose k p).pose k = p := by simp [pose, setPose]
theorem setPose_pose_ne (k : Crane) (p : Option Pose) (j : Crane) (h : j ≠ k) : (s.setPose k p).pose j = s.pose j := by
  simp [pose, setPose, Fin.val_ne_of_ne (Ne.symm h)]
theorem setPose_pose (k : Crane) (p : Option Pose) (j : Crane) : (s.setPose k p).pose j = if j = k then p else s.pose j := by
  by_cases h : j = k
  · subst h; simp
  · simp [h, setPose_pose_ne s _ _ j h]
@[simp] theorem setPose_govRec (k : Crane) (p : Option Pose) (j : Crane) : (s.setPose k p).govRec j = s.govRec j := rfl
@[simp] theorem setPose_wind (k : Crane) (p : Option Pose) (j : Crane) : (s.setPose k p).wind j = s.wind j := rfl
@[simp] theorem setPose_vane (k : Crane) (p : Option Pose) (j : Crane) : (s.setPose k p).vane j = s.vane j := rfl
@[simp] theorem setPose_zone (k : Crane) (p : Option Pose) (y : Zone) : (s.setPose k p).zone y = s.zone y := rfl
@[simp] theorem setPose_arb (k : Crane) (p : Option Pose) (j : Crane) : (s.setPose k p).arb j = s.arb j := rfl
@[simp] theorem setPose_perm (k : Crane) (p : Option Pose) (y : Zone) : (s.setPose k p).perm y = s.perm y := rfl
@[simp] theorem setPose_profile (k : Crane) (p : Option Pose) (j : Crane) : (s.setPose k p).profile j = s.profile j := rfl
@[simp] theorem setPose_map (k : Crane) (p : Option Pose) (j : Crane) : (s.setPose k p).map j = s.map j := rfl
@[simp] theorem setPose_chart (k : Crane) (p : Option Pose) (j : Crane) : (s.setPose k p).chart j = s.chart j := rfl
@[simp] theorem setPose_policy (k : Crane) (p : Option Pose) (j : Crane) : (s.setPose k p).policy j = s.policy j := rfl

/-! ### setGov -/

@[simp] theorem setGov_mode (k : Crane) (g : GovRec) : (s.setGov k g).mode = s.mode := rfl
@[simp] theorem setGov_now (k : Crane) (g : GovRec) : (s.setGov k g).now = s.now := rfl
@[simp] theorem setGov_clock (k : Crane) (g : GovRec) : (s.setGov k g).clock = s.clock := rfl
@[simp] theorem setGov_lanes (k : Crane) (g : GovRec) : (s.setGov k g).lanes = s.lanes := rfl
@[simp] theorem setGov_poses (k : Crane) (g : GovRec) : (s.setGov k g).poses = s.poses := rfl
@[simp] theorem setGov_site (k : Crane) (g : GovRec) : (s.setGov k g).site = s.site := rfl
@[simp] theorem setGov_air (k : Crane) (g : GovRec) : (s.setGov k g).air = s.air := rfl
@[simp] theorem setGov_access (k : Crane) (g : GovRec) : (s.setGov k g).access = s.access := rfl
@[simp] theorem setGov_gov (k : Crane) (g : GovRec) : (s.setGov k g).gov = s.gov.set k g := rfl
@[simp] theorem setGov_winds (k : Crane) (g : GovRec) : (s.setGov k g).winds = s.winds := rfl
@[simp] theorem setGov_vanes (k : Crane) (g : GovRec) : (s.setGov k g).vanes = s.vanes := rfl
@[simp] theorem setGov_bookings (k : Crane) (g : GovRec) : (s.setGov k g).bookings = s.bookings := rfl
@[simp] theorem setGov_recorder (k : Crane) (g : GovRec) : (s.setGov k g).recorder = s.recorder := rfl
@[simp] theorem setGov_mgmt (k : Crane) (g : GovRec) : (s.setGov k g).mgmt = s.mgmt := rfl
@[simp] theorem setGov_line (k : Crane) (g : GovRec) : (s.setGov k g).line = s.line := rfl
@[simp] theorem setGov_pending (k : Crane) (g : GovRec) : (s.setGov k g).pending = s.pending := rfl
@[simp] theorem setGov_sent (k : Crane) (g : GovRec) : (s.setGov k g).sent = s.sent := rfl
@[simp] theorem setGov_freeCount (k : Crane) (g : GovRec) : (s.setGov k g).freeCount = s.freeCount := rfl
@[simp] theorem setGov_lane (k : Crane) (g : GovRec) (j : Crane) : (s.setGov k g).lane j = s.lane j := rfl
@[simp] theorem setGov_pose (k : Crane) (g : GovRec) (j : Crane) : (s.setGov k g).pose j = s.pose j := rfl
@[simp] theorem setGov_govRec_self (k : Crane) (g : GovRec) : (s.setGov k g).govRec k = g := by simp [govRec, setGov]
theorem setGov_govRec_ne (k : Crane) (g : GovRec) (j : Crane) (h : j ≠ k) : (s.setGov k g).govRec j = s.govRec j := by
  simp [govRec, setGov, Fin.val_ne_of_ne (Ne.symm h)]
theorem setGov_govRec (k : Crane) (g : GovRec) (j : Crane) : (s.setGov k g).govRec j = if j = k then g else s.govRec j := by
  by_cases h : j = k
  · subst h; simp
  · simp [h, setGov_govRec_ne s _ _ j h]
@[simp] theorem setGov_wind (k : Crane) (g : GovRec) (j : Crane) : (s.setGov k g).wind j = s.wind j := rfl
@[simp] theorem setGov_vane (k : Crane) (g : GovRec) (j : Crane) : (s.setGov k g).vane j = s.vane j := rfl
@[simp] theorem setGov_zone (k : Crane) (g : GovRec) (y : Zone) : (s.setGov k g).zone y = s.zone y := rfl
@[simp] theorem setGov_arb (k : Crane) (g : GovRec) (j : Crane) : (s.setGov k g).arb j = s.arb j := rfl
@[simp] theorem setGov_perm (k : Crane) (g : GovRec) (y : Zone) : (s.setGov k g).perm y = s.perm y := rfl
@[simp] theorem setGov_profile (k : Crane) (g : GovRec) (j : Crane) : (s.setGov k g).profile j = s.profile j := rfl
@[simp] theorem setGov_map (k : Crane) (g : GovRec) (j : Crane) : (s.setGov k g).map j = s.map j := rfl
@[simp] theorem setGov_chart (k : Crane) (g : GovRec) (j : Crane) : (s.setGov k g).chart j = s.chart j := rfl
@[simp] theorem setGov_policy (k : Crane) (g : GovRec) (j : Crane) : (s.setGov k g).policy j = s.policy j := rfl

/-! ### setWind -/

@[simp] theorem setWind_mode (k : Crane) (w : WindRec) : (s.setWind k w).mode = s.mode := rfl
@[simp] theorem setWind_now (k : Crane) (w : WindRec) : (s.setWind k w).now = s.now := rfl
@[simp] theorem setWind_clock (k : Crane) (w : WindRec) : (s.setWind k w).clock = s.clock := rfl
@[simp] theorem setWind_lanes (k : Crane) (w : WindRec) : (s.setWind k w).lanes = s.lanes := rfl
@[simp] theorem setWind_poses (k : Crane) (w : WindRec) : (s.setWind k w).poses = s.poses := rfl
@[simp] theorem setWind_site (k : Crane) (w : WindRec) : (s.setWind k w).site = s.site := rfl
@[simp] theorem setWind_air (k : Crane) (w : WindRec) : (s.setWind k w).air = s.air := rfl
@[simp] theorem setWind_access (k : Crane) (w : WindRec) : (s.setWind k w).access = s.access := rfl
@[simp] theorem setWind_gov (k : Crane) (w : WindRec) : (s.setWind k w).gov = s.gov := rfl
@[simp] theorem setWind_winds (k : Crane) (w : WindRec) : (s.setWind k w).winds = s.winds.set k w := rfl
@[simp] theorem setWind_vanes (k : Crane) (w : WindRec) : (s.setWind k w).vanes = s.vanes := rfl
@[simp] theorem setWind_bookings (k : Crane) (w : WindRec) : (s.setWind k w).bookings = s.bookings := rfl
@[simp] theorem setWind_recorder (k : Crane) (w : WindRec) : (s.setWind k w).recorder = s.recorder := rfl
@[simp] theorem setWind_mgmt (k : Crane) (w : WindRec) : (s.setWind k w).mgmt = s.mgmt := rfl
@[simp] theorem setWind_line (k : Crane) (w : WindRec) : (s.setWind k w).line = s.line := rfl
@[simp] theorem setWind_pending (k : Crane) (w : WindRec) : (s.setWind k w).pending = s.pending := rfl
@[simp] theorem setWind_sent (k : Crane) (w : WindRec) : (s.setWind k w).sent = s.sent := rfl
@[simp] theorem setWind_freeCount (k : Crane) (w : WindRec) : (s.setWind k w).freeCount = s.freeCount := rfl
@[simp] theorem setWind_lane (k : Crane) (w : WindRec) (j : Crane) : (s.setWind k w).lane j = s.lane j := rfl
@[simp] theorem setWind_pose (k : Crane) (w : WindRec) (j : Crane) : (s.setWind k w).pose j = s.pose j := rfl
@[simp] theorem setWind_govRec (k : Crane) (w : WindRec) (j : Crane) : (s.setWind k w).govRec j = s.govRec j := rfl
@[simp] theorem setWind_wind_self (k : Crane) (w : WindRec) : (s.setWind k w).wind k = w := by simp [wind, setWind]
theorem setWind_wind_ne (k : Crane) (w : WindRec) (j : Crane) (h : j ≠ k) : (s.setWind k w).wind j = s.wind j := by
  simp [wind, setWind, Fin.val_ne_of_ne (Ne.symm h)]
theorem setWind_wind (k : Crane) (w : WindRec) (j : Crane) : (s.setWind k w).wind j = if j = k then w else s.wind j := by
  by_cases h : j = k
  · subst h; simp
  · simp [h, setWind_wind_ne s _ _ j h]
@[simp] theorem setWind_vane (k : Crane) (w : WindRec) (j : Crane) : (s.setWind k w).vane j = s.vane j := rfl
@[simp] theorem setWind_zone (k : Crane) (w : WindRec) (y : Zone) : (s.setWind k w).zone y = s.zone y := rfl
@[simp] theorem setWind_arb (k : Crane) (w : WindRec) (j : Crane) : (s.setWind k w).arb j = s.arb j := rfl
@[simp] theorem setWind_perm (k : Crane) (w : WindRec) (y : Zone) : (s.setWind k w).perm y = s.perm y := rfl
@[simp] theorem setWind_profile (k : Crane) (w : WindRec) (j : Crane) : (s.setWind k w).profile j = s.profile j := rfl
@[simp] theorem setWind_map (k : Crane) (w : WindRec) (j : Crane) : (s.setWind k w).map j = s.map j := rfl
@[simp] theorem setWind_chart (k : Crane) (w : WindRec) (j : Crane) : (s.setWind k w).chart j = s.chart j := rfl
@[simp] theorem setWind_policy (k : Crane) (w : WindRec) (j : Crane) : (s.setWind k w).policy j = s.policy j := rfl

/-! ### setVane -/

@[simp] theorem setVane_mode (k : Crane) (v : VaneRec) : (s.setVane k v).mode = s.mode := rfl
@[simp] theorem setVane_now (k : Crane) (v : VaneRec) : (s.setVane k v).now = s.now := rfl
@[simp] theorem setVane_clock (k : Crane) (v : VaneRec) : (s.setVane k v).clock = s.clock := rfl
@[simp] theorem setVane_lanes (k : Crane) (v : VaneRec) : (s.setVane k v).lanes = s.lanes := rfl
@[simp] theorem setVane_poses (k : Crane) (v : VaneRec) : (s.setVane k v).poses = s.poses := rfl
@[simp] theorem setVane_site (k : Crane) (v : VaneRec) : (s.setVane k v).site = s.site := rfl
@[simp] theorem setVane_air (k : Crane) (v : VaneRec) : (s.setVane k v).air = s.air := rfl
@[simp] theorem setVane_access (k : Crane) (v : VaneRec) : (s.setVane k v).access = s.access := rfl
@[simp] theorem setVane_gov (k : Crane) (v : VaneRec) : (s.setVane k v).gov = s.gov := rfl
@[simp] theorem setVane_winds (k : Crane) (v : VaneRec) : (s.setVane k v).winds = s.winds := rfl
@[simp] theorem setVane_vanes (k : Crane) (v : VaneRec) : (s.setVane k v).vanes = s.vanes.set k v := rfl
@[simp] theorem setVane_bookings (k : Crane) (v : VaneRec) : (s.setVane k v).bookings = s.bookings := rfl
@[simp] theorem setVane_recorder (k : Crane) (v : VaneRec) : (s.setVane k v).recorder = s.recorder := rfl
@[simp] theorem setVane_mgmt (k : Crane) (v : VaneRec) : (s.setVane k v).mgmt = s.mgmt := rfl
@[simp] theorem setVane_line (k : Crane) (v : VaneRec) : (s.setVane k v).line = s.line := rfl
@[simp] theorem setVane_pending (k : Crane) (v : VaneRec) : (s.setVane k v).pending = s.pending := rfl
@[simp] theorem setVane_sent (k : Crane) (v : VaneRec) : (s.setVane k v).sent = s.sent := rfl
@[simp] theorem setVane_freeCount (k : Crane) (v : VaneRec) : (s.setVane k v).freeCount = s.freeCount := rfl
@[simp] theorem setVane_lane (k : Crane) (v : VaneRec) (j : Crane) : (s.setVane k v).lane j = s.lane j := rfl
@[simp] theorem setVane_pose (k : Crane) (v : VaneRec) (j : Crane) : (s.setVane k v).pose j = s.pose j := rfl
@[simp] theorem setVane_govRec (k : Crane) (v : VaneRec) (j : Crane) : (s.setVane k v).govRec j = s.govRec j := rfl
@[simp] theorem setVane_wind (k : Crane) (v : VaneRec) (j : Crane) : (s.setVane k v).wind j = s.wind j := rfl
@[simp] theorem setVane_vane_self (k : Crane) (v : VaneRec) : (s.setVane k v).vane k = v := by simp [vane, setVane]
theorem setVane_vane_ne (k : Crane) (v : VaneRec) (j : Crane) (h : j ≠ k) : (s.setVane k v).vane j = s.vane j := by
  simp [vane, setVane, Fin.val_ne_of_ne (Ne.symm h)]
theorem setVane_vane (k : Crane) (v : VaneRec) (j : Crane) : (s.setVane k v).vane j = if j = k then v else s.vane j := by
  by_cases h : j = k
  · subst h; simp
  · simp [h, setVane_vane_ne s _ _ j h]
@[simp] theorem setVane_zone (k : Crane) (v : VaneRec) (y : Zone) : (s.setVane k v).zone y = s.zone y := rfl
@[simp] theorem setVane_arb (k : Crane) (v : VaneRec) (j : Crane) : (s.setVane k v).arb j = s.arb j := rfl
@[simp] theorem setVane_perm (k : Crane) (v : VaneRec) (y : Zone) : (s.setVane k v).perm y = s.perm y := rfl
@[simp] theorem setVane_profile (k : Crane) (v : VaneRec) (j : Crane) : (s.setVane k v).profile j = s.profile j := rfl
@[simp] theorem setVane_map (k : Crane) (v : VaneRec) (j : Crane) : (s.setVane k v).map j = s.map j := rfl
@[simp] theorem setVane_chart (k : Crane) (v : VaneRec) (j : Crane) : (s.setVane k v).chart j = s.chart j := rfl
@[simp] theorem setVane_policy (k : Crane) (v : VaneRec) (j : Crane) : (s.setVane k v).policy j = s.policy j := rfl

/-! ### setZone -/

@[simp] theorem setZone_mode (z : Zone) (r : ZoneRec) : (s.setZone z r).mode = s.mode := rfl
@[simp] theorem setZone_now (z : Zone) (r : ZoneRec) : (s.setZone z r).now = s.now := rfl
@[simp] theorem setZone_clock (z : Zone) (r : ZoneRec) : (s.setZone z r).clock = s.clock := rfl
@[simp] theorem setZone_lanes (z : Zone) (r : ZoneRec) : (s.setZone z r).lanes = s.lanes := rfl
@[simp] theorem setZone_poses (z : Zone) (r : ZoneRec) : (s.setZone z r).poses = s.poses := rfl
@[simp] theorem setZone_site (z : Zone) (r : ZoneRec) : (s.setZone z r).site = s.site := rfl
@[simp] theorem setZone_air (z : Zone) (r : ZoneRec) : (s.setZone z r).air = { s.air with zones := s.air.zones.set z r } := rfl
@[simp] theorem setZone_access (z : Zone) (r : ZoneRec) : (s.setZone z r).access = s.access := rfl
@[simp] theorem setZone_gov (z : Zone) (r : ZoneRec) : (s.setZone z r).gov = s.gov := rfl
@[simp] theorem setZone_winds (z : Zone) (r : ZoneRec) : (s.setZone z r).winds = s.winds := rfl
@[simp] theorem setZone_vanes (z : Zone) (r : ZoneRec) : (s.setZone z r).vanes = s.vanes := rfl
@[simp] theorem setZone_bookings (z : Zone) (r : ZoneRec) : (s.setZone z r).bookings = s.bookings := rfl
@[simp] theorem setZone_recorder (z : Zone) (r : ZoneRec) : (s.setZone z r).recorder = s.recorder := rfl
@[simp] theorem setZone_mgmt (z : Zone) (r : ZoneRec) : (s.setZone z r).mgmt = s.mgmt := rfl
@[simp] theorem setZone_line (z : Zone) (r : ZoneRec) : (s.setZone z r).line = s.line := rfl
@[simp] theorem setZone_pending (z : Zone) (r : ZoneRec) : (s.setZone z r).pending = s.pending := rfl
@[simp] theorem setZone_sent (z : Zone) (r : ZoneRec) : (s.setZone z r).sent = s.sent := rfl
@[simp] theorem setZone_freeCount (z : Zone) (r : ZoneRec) : (s.setZone z r).freeCount = s.freeCount := rfl
@[simp] theorem setZone_lane (z : Zone) (r : ZoneRec) (j : Crane) : (s.setZone z r).lane j = s.lane j := rfl
@[simp] theorem setZone_pose (z : Zone) (r : ZoneRec) (j : Crane) : (s.setZone z r).pose j = s.pose j := rfl
@[simp] theorem setZone_govRec (z : Zone) (r : ZoneRec) (j : Crane) : (s.setZone z r).govRec j = s.govRec j := rfl
@[simp] theorem setZone_wind (z : Zone) (r : ZoneRec) (j : Crane) : (s.setZone z r).wind j = s.wind j := rfl
@[simp] theorem setZone_vane (z : Zone) (r : ZoneRec) (j : Crane) : (s.setZone z r).vane j = s.vane j := rfl
@[simp] theorem setZone_zone_self (z : Zone) (r : ZoneRec) : (s.setZone z r).zone z = r := by simp [zone, setZone]
theorem setZone_zone_ne (z : Zone) (r : ZoneRec) (y : Zone) (h : y ≠ z) : (s.setZone z r).zone y = s.zone y := by
  simp [zone, setZone, Fin.val_ne_of_ne (Ne.symm h)]
theorem setZone_zone (z : Zone) (r : ZoneRec) (y : Zone) : (s.setZone z r).zone y = if y = z then r else s.zone y := by
  by_cases h : y = z
  · subst h; simp
  · simp [h, setZone_zone_ne s _ _ y h]
@[simp] theorem setZone_arb (z : Zone) (r : ZoneRec) (j : Crane) : (s.setZone z r).arb j = s.arb j := rfl
@[simp] theorem setZone_perm (z : Zone) (r : ZoneRec) (y : Zone) : (s.setZone z r).perm y = s.perm y := rfl
@[simp] theorem setZone_profile (z : Zone) (r : ZoneRec) (j : Crane) : (s.setZone z r).profile j = s.profile j := rfl
@[simp] theorem setZone_map (z : Zone) (r : ZoneRec) (j : Crane) : (s.setZone z r).map j = s.map j := rfl
@[simp] theorem setZone_chart (z : Zone) (r : ZoneRec) (j : Crane) : (s.setZone z r).chart j = s.chart j := rfl
@[simp] theorem setZone_policy (z : Zone) (r : ZoneRec) (j : Crane) : (s.setZone z r).policy j = s.policy j := rfl

/-! ### setArb -/

@[simp] theorem setArb_mode (k : Crane) (a : ArbRec) : (s.setArb k a).mode = s.mode := rfl
@[simp] theorem setArb_now (k : Crane) (a : ArbRec) : (s.setArb k a).now = s.now := rfl
@[simp] theorem setArb_clock (k : Crane) (a : ArbRec) : (s.setArb k a).clock = s.clock := rfl
@[simp] theorem setArb_lanes (k : Crane) (a : ArbRec) : (s.setArb k a).lanes = s.lanes := rfl
@[simp] theorem setArb_poses (k : Crane) (a : ArbRec) : (s.setArb k a).poses = s.poses := rfl
@[simp] theorem setArb_site (k : Crane) (a : ArbRec) : (s.setArb k a).site = s.site := rfl
@[simp] theorem setArb_air (k : Crane) (a : ArbRec) : (s.setArb k a).air = { s.air with cranes := s.air.cranes.set k a } := rfl
@[simp] theorem setArb_access (k : Crane) (a : ArbRec) : (s.setArb k a).access = s.access := rfl
@[simp] theorem setArb_gov (k : Crane) (a : ArbRec) : (s.setArb k a).gov = s.gov := rfl
@[simp] theorem setArb_winds (k : Crane) (a : ArbRec) : (s.setArb k a).winds = s.winds := rfl
@[simp] theorem setArb_vanes (k : Crane) (a : ArbRec) : (s.setArb k a).vanes = s.vanes := rfl
@[simp] theorem setArb_bookings (k : Crane) (a : ArbRec) : (s.setArb k a).bookings = s.bookings := rfl
@[simp] theorem setArb_recorder (k : Crane) (a : ArbRec) : (s.setArb k a).recorder = s.recorder := rfl
@[simp] theorem setArb_mgmt (k : Crane) (a : ArbRec) : (s.setArb k a).mgmt = s.mgmt := rfl
@[simp] theorem setArb_line (k : Crane) (a : ArbRec) : (s.setArb k a).line = s.line := rfl
@[simp] theorem setArb_pending (k : Crane) (a : ArbRec) : (s.setArb k a).pending = s.pending := rfl
@[simp] theorem setArb_sent (k : Crane) (a : ArbRec) : (s.setArb k a).sent = s.sent := rfl
@[simp] theorem setArb_freeCount (k : Crane) (a : ArbRec) : (s.setArb k a).freeCount = s.freeCount := rfl
@[simp] theorem setArb_lane (k : Crane) (a : ArbRec) (j : Crane) : (s.setArb k a).lane j = s.lane j := rfl
@[simp] theorem setArb_pose (k : Crane) (a : ArbRec) (j : Crane) : (s.setArb k a).pose j = s.pose j := rfl
@[simp] theorem setArb_govRec (k : Crane) (a : ArbRec) (j : Crane) : (s.setArb k a).govRec j = s.govRec j := rfl
@[simp] theorem setArb_wind (k : Crane) (a : ArbRec) (j : Crane) : (s.setArb k a).wind j = s.wind j := rfl
@[simp] theorem setArb_vane (k : Crane) (a : ArbRec) (j : Crane) : (s.setArb k a).vane j = s.vane j := rfl
@[simp] theorem setArb_zone (k : Crane) (a : ArbRec) (y : Zone) : (s.setArb k a).zone y = s.zone y := rfl
@[simp] theorem setArb_arb_self (k : Crane) (a : ArbRec) : (s.setArb k a).arb k = a := by simp [arb, setArb]
theorem setArb_arb_ne (k : Crane) (a : ArbRec) (j : Crane) (h : j ≠ k) : (s.setArb k a).arb j = s.arb j := by
  simp [arb, setArb, Fin.val_ne_of_ne (Ne.symm h)]
theorem setArb_arb (k : Crane) (a : ArbRec) (j : Crane) : (s.setArb k a).arb j = if j = k then a else s.arb j := by
  by_cases h : j = k
  · subst h; simp
  · simp [h, setArb_arb_ne s _ _ j h]
@[simp] theorem setArb_perm (k : Crane) (a : ArbRec) (y : Zone) : (s.setArb k a).perm y = s.perm y := rfl
@[simp] theorem setArb_profile (k : Crane) (a : ArbRec) (j : Crane) : (s.setArb k a).profile j = s.profile j := rfl
@[simp] theorem setArb_map (k : Crane) (a : ArbRec) (j : Crane) : (s.setArb k a).map j = s.map j := rfl
@[simp] theorem setArb_chart (k : Crane) (a : ArbRec) (j : Crane) : (s.setArb k a).chart j = s.chart j := rfl
@[simp] theorem setArb_policy (k : Crane) (a : ArbRec) (j : Crane) : (s.setArb k a).policy j = s.policy j := rfl

/-! ### setPerm -/

@[simp] theorem setPerm_mode (z : Zone) (p : Perm) : (s.setPerm z p).mode = s.mode := rfl
@[simp] theorem setPerm_now (z : Zone) (p : Perm) : (s.setPerm z p).now = s.now := rfl
@[simp] theorem setPerm_clock (z : Zone) (p : Perm) : (s.setPerm z p).clock = s.clock := rfl
@[simp] theorem setPerm_lanes (z : Zone) (p : Perm) : (s.setPerm z p).lanes = s.lanes := rfl
@[simp] theorem setPerm_poses (z : Zone) (p : Perm) : (s.setPerm z p).poses = s.poses := rfl
@[simp] theorem setPerm_site (z : Zone) (p : Perm) : (s.setPerm z p).site = s.site := rfl
@[simp] theorem setPerm_air (z : Zone) (p : Perm) : (s.setPerm z p).air = s.air := rfl
@[simp] theorem setPerm_access (z : Zone) (p : Perm) : (s.setPerm z p).access = { s.access with perms := s.access.perms.set z p } := rfl
@[simp] theorem setPerm_gov (z : Zone) (p : Perm) : (s.setPerm z p).gov = s.gov := rfl
@[simp] theorem setPerm_winds (z : Zone) (p : Perm) : (s.setPerm z p).winds = s.winds := rfl
@[simp] theorem setPerm_vanes (z : Zone) (p : Perm) : (s.setPerm z p).vanes = s.vanes := rfl
@[simp] theorem setPerm_bookings (z : Zone) (p : Perm) : (s.setPerm z p).bookings = s.bookings := rfl
@[simp] theorem setPerm_recorder (z : Zone) (p : Perm) : (s.setPerm z p).recorder = s.recorder := rfl
@[simp] theorem setPerm_mgmt (z : Zone) (p : Perm) : (s.setPerm z p).mgmt = s.mgmt := rfl
@[simp] theorem setPerm_line (z : Zone) (p : Perm) : (s.setPerm z p).line = s.line := rfl
@[simp] theorem setPerm_pending (z : Zone) (p : Perm) : (s.setPerm z p).pending = s.pending := rfl
@[simp] theorem setPerm_sent (z : Zone) (p : Perm) : (s.setPerm z p).sent = s.sent := rfl
@[simp] theorem setPerm_freeCount (z : Zone) (p : Perm) : (s.setPerm z p).freeCount = s.freeCount := rfl
@[simp] theorem setPerm_lane (z : Zone) (p : Perm) (j : Crane) : (s.setPerm z p).lane j = s.lane j := rfl
@[simp] theorem setPerm_pose (z : Zone) (p : Perm) (j : Crane) : (s.setPerm z p).pose j = s.pose j := rfl
@[simp] theorem setPerm_govRec (z : Zone) (p : Perm) (j : Crane) : (s.setPerm z p).govRec j = s.govRec j := rfl
@[simp] theorem setPerm_wind (z : Zone) (p : Perm) (j : Crane) : (s.setPerm z p).wind j = s.wind j := rfl
@[simp] theorem setPerm_vane (z : Zone) (p : Perm) (j : Crane) : (s.setPerm z p).vane j = s.vane j := rfl
@[simp] theorem setPerm_zone (z : Zone) (p : Perm) (y : Zone) : (s.setPerm z p).zone y = s.zone y := rfl
@[simp] theorem setPerm_arb (z : Zone) (p : Perm) (j : Crane) : (s.setPerm z p).arb j = s.arb j := rfl
@[simp] theorem setPerm_perm_self (z : Zone) (p : Perm) : (s.setPerm z p).perm z = p := by simp [perm, setPerm]
theorem setPerm_perm_ne (z : Zone) (p : Perm) (y : Zone) (h : y ≠ z) : (s.setPerm z p).perm y = s.perm y := by
  simp [perm, setPerm, Fin.val_ne_of_ne (Ne.symm h)]
theorem setPerm_perm (z : Zone) (p : Perm) (y : Zone) : (s.setPerm z p).perm y = if y = z then p else s.perm y := by
  by_cases h : y = z
  · subst h; simp
  · simp [h, setPerm_perm_ne s _ _ y h]
@[simp] theorem setPerm_profile (z : Zone) (p : Perm) (j : Crane) : (s.setPerm z p).profile j = s.profile j := rfl
@[simp] theorem setPerm_map (z : Zone) (p : Perm) (j : Crane) : (s.setPerm z p).map j = s.map j := rfl
@[simp] theorem setPerm_chart (z : Zone) (p : Perm) (j : Crane) : (s.setPerm z p).chart j = s.chart j := rfl
@[simp] theorem setPerm_policy (z : Zone) (p : Perm) (j : Crane) : (s.setPerm z p).policy j = s.policy j := rfl

/-! ### setGrants -/

@[simp] theorem setGrants_mode (g : List Grant) : (s.setGrants g).mode = s.mode := rfl
@[simp] theorem setGrants_now (g : List Grant) : (s.setGrants g).now = s.now := rfl
@[simp] theorem setGrants_clock (g : List Grant) : (s.setGrants g).clock = s.clock := rfl
@[simp] theorem setGrants_lanes (g : List Grant) : (s.setGrants g).lanes = s.lanes := rfl
@[simp] theorem setGrants_poses (g : List Grant) : (s.setGrants g).poses = s.poses := rfl
@[simp] theorem setGrants_site (g : List Grant) : (s.setGrants g).site = s.site := rfl
@[simp] theorem setGrants_air (g : List Grant) : (s.setGrants g).air = s.air := rfl
@[simp] theorem setGrants_access (g : List Grant) : (s.setGrants g).access = { s.access with grants := g } := rfl
@[simp] theorem setGrants_gov (g : List Grant) : (s.setGrants g).gov = s.gov := rfl
@[simp] theorem setGrants_winds (g : List Grant) : (s.setGrants g).winds = s.winds := rfl
@[simp] theorem setGrants_vanes (g : List Grant) : (s.setGrants g).vanes = s.vanes := rfl
@[simp] theorem setGrants_bookings (g : List Grant) : (s.setGrants g).bookings = s.bookings := rfl
@[simp] theorem setGrants_recorder (g : List Grant) : (s.setGrants g).recorder = s.recorder := rfl
@[simp] theorem setGrants_mgmt (g : List Grant) : (s.setGrants g).mgmt = s.mgmt := rfl
@[simp] theorem setGrants_line (g : List Grant) : (s.setGrants g).line = s.line := rfl
@[simp] theorem setGrants_pending (g : List Grant) : (s.setGrants g).pending = s.pending := rfl
@[simp] theorem setGrants_sent (g : List Grant) : (s.setGrants g).sent = s.sent := rfl
@[simp] theorem setGrants_freeCount (g : List Grant) : (s.setGrants g).freeCount = s.freeCount := rfl
@[simp] theorem setGrants_lane (g : List Grant) (j : Crane) : (s.setGrants g).lane j = s.lane j := rfl
@[simp] theorem setGrants_pose (g : List Grant) (j : Crane) : (s.setGrants g).pose j = s.pose j := rfl
@[simp] theorem setGrants_govRec (g : List Grant) (j : Crane) : (s.setGrants g).govRec j = s.govRec j := rfl
@[simp] theorem setGrants_wind (g : List Grant) (j : Crane) : (s.setGrants g).wind j = s.wind j := rfl
@[simp] theorem setGrants_vane (g : List Grant) (j : Crane) : (s.setGrants g).vane j = s.vane j := rfl
@[simp] theorem setGrants_zone (g : List Grant) (y : Zone) : (s.setGrants g).zone y = s.zone y := rfl
@[simp] theorem setGrants_arb (g : List Grant) (j : Crane) : (s.setGrants g).arb j = s.arb j := rfl
@[simp] theorem setGrants_perm (g : List Grant) (y : Zone) : (s.setGrants g).perm y = s.perm y := rfl
@[simp] theorem setGrants_profile (g : List Grant) (j : Crane) : (s.setGrants g).profile j = s.profile j := rfl
@[simp] theorem setGrants_map (g : List Grant) (j : Crane) : (s.setGrants g).map j = s.map j := rfl
@[simp] theorem setGrants_chart (g : List Grant) (j : Crane) : (s.setGrants g).chart j = s.chart j := rfl
@[simp] theorem setGrants_policy (g : List Grant) (j : Crane) : (s.setGrants g).policy j = s.policy j := rfl

/-! ### setSite -/

@[simp] theorem setSite_mode (t : Site) : (s.setSite t).mode = s.mode := rfl
@[simp] theorem setSite_now (t : Site) : (s.setSite t).now = s.now := rfl
@[simp] theorem setSite_clock (t : Site) : (s.setSite t).clock = s.clock := rfl
@[simp] theorem setSite_lanes (t : Site) : (s.setSite t).lanes = s.lanes := rfl
@[simp] theorem setSite_poses (t : Site) : (s.setSite t).poses = s.poses := rfl
@[simp] theorem setSite_site (t : Site) : (s.setSite t).site = t := rfl
@[simp] theorem setSite_air (t : Site) : (s.setSite t).air = s.air := rfl
@[simp] theorem setSite_access (t : Site) : (s.setSite t).access = s.access := rfl
@[simp] theorem setSite_gov (t : Site) : (s.setSite t).gov = s.gov := rfl
@[simp] theorem setSite_winds (t : Site) : (s.setSite t).winds = s.winds := rfl
@[simp] theorem setSite_vanes (t : Site) : (s.setSite t).vanes = s.vanes := rfl
@[simp] theorem setSite_bookings (t : Site) : (s.setSite t).bookings = s.bookings := rfl
@[simp] theorem setSite_recorder (t : Site) : (s.setSite t).recorder = s.recorder := rfl
@[simp] theorem setSite_mgmt (t : Site) : (s.setSite t).mgmt = s.mgmt := rfl
@[simp] theorem setSite_line (t : Site) : (s.setSite t).line = s.line := rfl
@[simp] theorem setSite_pending (t : Site) : (s.setSite t).pending = s.pending := rfl
@[simp] theorem setSite_sent (t : Site) : (s.setSite t).sent = s.sent := rfl
@[simp] theorem setSite_freeCount (t : Site) : (s.setSite t).freeCount = s.freeCount := rfl
@[simp] theorem setSite_lane (t : Site) (j : Crane) : (s.setSite t).lane j = s.lane j := rfl
@[simp] theorem setSite_pose (t : Site) (j : Crane) : (s.setSite t).pose j = s.pose j := rfl
@[simp] theorem setSite_govRec (t : Site) (j : Crane) : (s.setSite t).govRec j = s.govRec j := rfl
@[simp] theorem setSite_wind (t : Site) (j : Crane) : (s.setSite t).wind j = s.wind j := rfl
@[simp] theorem setSite_vane (t : Site) (j : Crane) : (s.setSite t).vane j = s.vane j := rfl
@[simp] theorem setSite_zone (t : Site) (y : Zone) : (s.setSite t).zone y = s.zone y := rfl
@[simp] theorem setSite_arb (t : Site) (j : Crane) : (s.setSite t).arb j = s.arb j := rfl
@[simp] theorem setSite_perm (t : Site) (y : Zone) : (s.setSite t).perm y = s.perm y := rfl
@[simp] theorem setSite_profile (t : Site) (j : Crane) : (s.setSite t).profile j = t.profiles[j] := rfl
@[simp] theorem setSite_map (t : Site) (j : Crane) : (s.setSite t).map j = t.maps[j] := rfl
@[simp] theorem setSite_chart (t : Site) (j : Crane) : (s.setSite t).chart j = t.charts[j] := rfl
@[simp] theorem setSite_policy (t : Site) (j : Crane) : (s.setSite t).policy j = t.policies[j] := rfl

/-! ### setRecorder -/

@[simp] theorem setRecorder_mode (r : Recorder) : (s.setRecorder r).mode = s.mode := rfl
@[simp] theorem setRecorder_now (r : Recorder) : (s.setRecorder r).now = s.now := rfl
@[simp] theorem setRecorder_clock (r : Recorder) : (s.setRecorder r).clock = s.clock := rfl
@[simp] theorem setRecorder_lanes (r : Recorder) : (s.setRecorder r).lanes = s.lanes := rfl
@[simp] theorem setRecorder_poses (r : Recorder) : (s.setRecorder r).poses = s.poses := rfl
@[simp] theorem setRecorder_site (r : Recorder) : (s.setRecorder r).site = s.site := rfl
@[simp] theorem setRecorder_air (r : Recorder) : (s.setRecorder r).air = s.air := rfl
@[simp] theorem setRecorder_access (r : Recorder) : (s.setRecorder r).access = s.access := rfl
@[simp] theorem setRecorder_gov (r : Recorder) : (s.setRecorder r).gov = s.gov := rfl
@[simp] theorem setRecorder_winds (r : Recorder) : (s.setRecorder r).winds = s.winds := rfl
@[simp] theorem setRecorder_vanes (r : Recorder) : (s.setRecorder r).vanes = s.vanes := rfl
@[simp] theorem setRecorder_bookings (r : Recorder) : (s.setRecorder r).bookings = s.bookings := rfl
@[simp] theorem setRecorder_recorder (r : Recorder) : (s.setRecorder r).recorder = r := rfl
@[simp] theorem setRecorder_mgmt (r : Recorder) : (s.setRecorder r).mgmt = s.mgmt := rfl
@[simp] theorem setRecorder_line (r : Recorder) : (s.setRecorder r).line = s.line := rfl
@[simp] theorem setRecorder_pending (r : Recorder) : (s.setRecorder r).pending = s.pending := rfl
@[simp] theorem setRecorder_sent (r : Recorder) : (s.setRecorder r).sent = s.sent := rfl
@[simp] theorem setRecorder_freeCount (r : Recorder) : (s.setRecorder r).freeCount = s.freeCount := rfl
@[simp] theorem setRecorder_lane (r : Recorder) (j : Crane) : (s.setRecorder r).lane j = s.lane j := rfl
@[simp] theorem setRecorder_pose (r : Recorder) (j : Crane) : (s.setRecorder r).pose j = s.pose j := rfl
@[simp] theorem setRecorder_govRec (r : Recorder) (j : Crane) : (s.setRecorder r).govRec j = s.govRec j := rfl
@[simp] theorem setRecorder_wind (r : Recorder) (j : Crane) : (s.setRecorder r).wind j = s.wind j := rfl
@[simp] theorem setRecorder_vane (r : Recorder) (j : Crane) : (s.setRecorder r).vane j = s.vane j := rfl
@[simp] theorem setRecorder_zone (r : Recorder) (y : Zone) : (s.setRecorder r).zone y = s.zone y := rfl
@[simp] theorem setRecorder_arb (r : Recorder) (j : Crane) : (s.setRecorder r).arb j = s.arb j := rfl
@[simp] theorem setRecorder_perm (r : Recorder) (y : Zone) : (s.setRecorder r).perm y = s.perm y := rfl
@[simp] theorem setRecorder_profile (r : Recorder) (j : Crane) : (s.setRecorder r).profile j = s.profile j := rfl
@[simp] theorem setRecorder_map (r : Recorder) (j : Crane) : (s.setRecorder r).map j = s.map j := rfl
@[simp] theorem setRecorder_chart (r : Recorder) (j : Crane) : (s.setRecorder r).chart j = s.chart j := rfl
@[simp] theorem setRecorder_policy (r : Recorder) (j : Crane) : (s.setRecorder r).policy j = s.policy j := rfl

/-! ### setMgmt -/

@[simp] theorem setMgmt_mode (m : Mgmt) : (s.setMgmt m).mode = s.mode := rfl
@[simp] theorem setMgmt_now (m : Mgmt) : (s.setMgmt m).now = s.now := rfl
@[simp] theorem setMgmt_clock (m : Mgmt) : (s.setMgmt m).clock = s.clock := rfl
@[simp] theorem setMgmt_lanes (m : Mgmt) : (s.setMgmt m).lanes = s.lanes := rfl
@[simp] theorem setMgmt_poses (m : Mgmt) : (s.setMgmt m).poses = s.poses := rfl
@[simp] theorem setMgmt_site (m : Mgmt) : (s.setMgmt m).site = s.site := rfl
@[simp] theorem setMgmt_air (m : Mgmt) : (s.setMgmt m).air = s.air := rfl
@[simp] theorem setMgmt_access (m : Mgmt) : (s.setMgmt m).access = s.access := rfl
@[simp] theorem setMgmt_gov (m : Mgmt) : (s.setMgmt m).gov = s.gov := rfl
@[simp] theorem setMgmt_winds (m : Mgmt) : (s.setMgmt m).winds = s.winds := rfl
@[simp] theorem setMgmt_vanes (m : Mgmt) : (s.setMgmt m).vanes = s.vanes := rfl
@[simp] theorem setMgmt_bookings (m : Mgmt) : (s.setMgmt m).bookings = s.bookings := rfl
@[simp] theorem setMgmt_recorder (m : Mgmt) : (s.setMgmt m).recorder = s.recorder := rfl
@[simp] theorem setMgmt_mgmt (m : Mgmt) : (s.setMgmt m).mgmt = m := rfl
@[simp] theorem setMgmt_line (m : Mgmt) : (s.setMgmt m).line = s.line := rfl
@[simp] theorem setMgmt_pending (m : Mgmt) : (s.setMgmt m).pending = s.pending := rfl
@[simp] theorem setMgmt_sent (m : Mgmt) : (s.setMgmt m).sent = s.sent := rfl
@[simp] theorem setMgmt_freeCount (m : Mgmt) : (s.setMgmt m).freeCount = s.freeCount := rfl
@[simp] theorem setMgmt_lane (m : Mgmt) (j : Crane) : (s.setMgmt m).lane j = s.lane j := rfl
@[simp] theorem setMgmt_pose (m : Mgmt) (j : Crane) : (s.setMgmt m).pose j = s.pose j := rfl
@[simp] theorem setMgmt_govRec (m : Mgmt) (j : Crane) : (s.setMgmt m).govRec j = s.govRec j := rfl
@[simp] theorem setMgmt_wind (m : Mgmt) (j : Crane) : (s.setMgmt m).wind j = s.wind j := rfl
@[simp] theorem setMgmt_vane (m : Mgmt) (j : Crane) : (s.setMgmt m).vane j = s.vane j := rfl
@[simp] theorem setMgmt_zone (m : Mgmt) (y : Zone) : (s.setMgmt m).zone y = s.zone y := rfl
@[simp] theorem setMgmt_arb (m : Mgmt) (j : Crane) : (s.setMgmt m).arb j = s.arb j := rfl
@[simp] theorem setMgmt_perm (m : Mgmt) (y : Zone) : (s.setMgmt m).perm y = s.perm y := rfl
@[simp] theorem setMgmt_profile (m : Mgmt) (j : Crane) : (s.setMgmt m).profile j = s.profile j := rfl
@[simp] theorem setMgmt_map (m : Mgmt) (j : Crane) : (s.setMgmt m).map j = s.map j := rfl
@[simp] theorem setMgmt_chart (m : Mgmt) (j : Crane) : (s.setMgmt m).chart j = s.chart j := rfl
@[simp] theorem setMgmt_policy (m : Mgmt) (j : Crane) : (s.setMgmt m).policy j = s.policy j := rfl

/-! ### setBookings -/

@[simp] theorem setBookings_mode (b : List Booking) : (s.setBookings b).mode = s.mode := rfl
@[simp] theorem setBookings_now (b : List Booking) : (s.setBookings b).now = s.now := rfl
@[simp] theorem setBookings_clock (b : List Booking) : (s.setBookings b).clock = s.clock := rfl
@[simp] theorem setBookings_lanes (b : List Booking) : (s.setBookings b).lanes = s.lanes := rfl
@[simp] theorem setBookings_poses (b : List Booking) : (s.setBookings b).poses = s.poses := rfl
@[simp] theorem setBookings_site (b : List Booking) : (s.setBookings b).site = s.site := rfl
@[simp] theorem setBookings_air (b : List Booking) : (s.setBookings b).air = s.air := rfl
@[simp] theorem setBookings_access (b : List Booking) : (s.setBookings b).access = s.access := rfl
@[simp] theorem setBookings_gov (b : List Booking) : (s.setBookings b).gov = s.gov := rfl
@[simp] theorem setBookings_winds (b : List Booking) : (s.setBookings b).winds = s.winds := rfl
@[simp] theorem setBookings_vanes (b : List Booking) : (s.setBookings b).vanes = s.vanes := rfl
@[simp] theorem setBookings_bookings (b : List Booking) : (s.setBookings b).bookings = b := rfl
@[simp] theorem setBookings_recorder (b : List Booking) : (s.setBookings b).recorder = s.recorder := rfl
@[simp] theorem setBookings_mgmt (b : List Booking) : (s.setBookings b).mgmt = s.mgmt := rfl
@[simp] theorem setBookings_line (b : List Booking) : (s.setBookings b).line = s.line := rfl
@[simp] theorem setBookings_pending (b : List Booking) : (s.setBookings b).pending = s.pending := rfl
@[simp] theorem setBookings_sent (b : List Booking) : (s.setBookings b).sent = s.sent := rfl
@[simp] theorem setBookings_freeCount (b : List Booking) : (s.setBookings b).freeCount = s.freeCount := rfl
@[simp] theorem setBookings_lane (b : List Booking) (j : Crane) : (s.setBookings b).lane j = s.lane j := rfl
@[simp] theorem setBookings_pose (b : List Booking) (j : Crane) : (s.setBookings b).pose j = s.pose j := rfl
@[simp] theorem setBookings_govRec (b : List Booking) (j : Crane) : (s.setBookings b).govRec j = s.govRec j := rfl
@[simp] theorem setBookings_wind (b : List Booking) (j : Crane) : (s.setBookings b).wind j = s.wind j := rfl
@[simp] theorem setBookings_vane (b : List Booking) (j : Crane) : (s.setBookings b).vane j = s.vane j := rfl
@[simp] theorem setBookings_zone (b : List Booking) (y : Zone) : (s.setBookings b).zone y = s.zone y := rfl
@[simp] theorem setBookings_arb (b : List Booking) (j : Crane) : (s.setBookings b).arb j = s.arb j := rfl
@[simp] theorem setBookings_perm (b : List Booking) (y : Zone) : (s.setBookings b).perm y = s.perm y := rfl
@[simp] theorem setBookings_profile (b : List Booking) (j : Crane) : (s.setBookings b).profile j = s.profile j := rfl
@[simp] theorem setBookings_map (b : List Booking) (j : Crane) : (s.setBookings b).map j = s.map j := rfl
@[simp] theorem setBookings_chart (b : List Booking) (j : Crane) : (s.setBookings b).chart j = s.chart j := rfl
@[simp] theorem setBookings_policy (b : List Booking) (j : Crane) : (s.setBookings b).policy j = s.policy j := rfl

/-! ### A written record read back, and written twice -/

@[simp] theorem setLane_same (k : Crane) : s.setLane k (s.lane k) = s := by simp [setLane, lane]
@[simp] theorem setPose_same (k : Crane) : s.setPose k (s.pose k) = s := by simp [setPose, pose]
@[simp] theorem setGov_same (k : Crane) : s.setGov k (s.govRec k) = s := by simp [setGov, govRec]
@[simp] theorem setWind_same (k : Crane) : s.setWind k (s.wind k) = s := by simp [setWind, wind]
@[simp] theorem setVane_same (k : Crane) : s.setVane k (s.vane k) = s := by simp [setVane, vane]
@[simp] theorem setZone_same (z : Zone) : s.setZone z (s.zone z) = s := by simp [setZone, zone]
@[simp] theorem setArb_same (k : Crane) : s.setArb k (s.arb k) = s := by simp [setArb, arb]
@[simp] theorem setPerm_same (z : Zone) : s.setPerm z (s.perm z) = s := by simp [setPerm, perm]

end Sys2Proof.Machine.State
end

