-- ==== Sys2Proof/Laws/Within.lean ====
section
/-! SUPPORT. The frame of an operation in one statement: `Within w s t` says that from `s` to `t` only the parts named in
`w` changed, and the recorder as reports and counts change it. Named operations get one such lemma each in
Laws/Frames.lean; a frame of anything built from them follows by composing. -/

namespace Sys2Proof.Machine

set_option Elab.async false

/-- The parts of the state an operation may change. -/
structure Touch where
  lanes    : Bool := false
  poses    : Bool := false
  site     : Bool := false
  air      : Bool := false
  access   : Bool := false
  gov      : Bool := false
  winds    : Bool := false
  vanes    : Bool := false
  bookings : Bool := false
  mgmt     : Bool := false
  sent     : Bool := false
  counters : Bool := false
  recorder : Bool := false

/-- One flag allows no less than another. -/
def allows (a b : Bool) : Bool := !a || b

/-- Every part `a` names, `b` names too. -/
def Touch.le (a b : Touch) : Bool :=
  allows a.lanes b.lanes && allows a.poses b.poses && allows a.site b.site && allows a.air b.air
    && allows a.access b.access && allows a.gov b.gov && allows a.winds b.winds && allows a.vanes b.vanes
    && allows a.bookings b.bookings && allows a.mgmt b.mgmt && allows a.sent b.sent && allows a.counters b.counters
    && allows a.recorder b.recorder

/-- How the recorder changes: the settings, timers and counter report records stay unless `w.recorder` (reports, triggers
and counts leave them), the counters stay unless `w.counters`, and a sound recorder stays sound. -/
structure Noted (w : Touch) (r r' : Recorder) : Prop where
  settings      : w.recorder = false → r'.settings = r.settings
  paceTimer     : w.recorder = false → r'.paceTimer = r.paceTimer
  transferTimer : w.recorder = false → r'.transferTimer = r.transferTimer
  reports       : w.recorder = false → r'.reports = r.reports
  counters      : w.counters = false → r'.counters = r.counters
  sound         : r.Sound → r'.Sound

/-- From `s` to `t` only what `w` names changed, and the recorder as `Noted` says. -/
structure Within (w : Touch) (s t : State) : Prop where
  mode      : t.mode = s.mode
  now       : t.now = s.now
  clock     : t.clock = s.clock
  line      : t.line = s.line
  pending   : t.pending = s.pending
  freeCount : t.freeCount = s.freeCount
  lanes     : w.lanes = false → t.lanes = s.lanes
  poses     : w.poses = false → t.poses = s.poses
  site      : w.site = false → t.site = s.site
  air       : w.air = false → t.air = s.air
  access    : w.access = false → t.access = s.access
  gov       : w.gov = false → t.gov = s.gov
  winds     : w.winds = false → t.winds = s.winds
  vanes     : w.vanes = false → t.vanes = s.vanes
  bookings  : w.bookings = false → t.bookings = s.bookings
  mgmt      : w.mgmt = false → t.mgmt = s.mgmt
  sent      : w.sent = false → t.sent = s.sent
  recorder  : Noted w s.recorder t.recorder

theorem allows_false {a b : Bool} (h : allows a b = true) (hb : b = false) : a = false := by
  subst hb; simpa [allows] using h

theorem Noted.refl (w : Touch) (r : Recorder) : Noted w r r :=
  ⟨fun _ => rfl, fun _ => rfl, fun _ => rfl, fun _ => rfl, fun _ => rfl, id⟩

/-- A report, a trigger or a count leaves settings, timers and counter report records as they are. -/
theorem Noted.plain {w : Touch} {r r' : Recorder} (h1 : r'.settings = r.settings) (h2 : r'.paceTimer = r.paceTimer)
    (h3 : r'.transferTimer = r.transferTimer) (h4 : r'.reports = r.reports)
    (h5 : w.counters = false → r'.counters = r.counters) (h6 : r.Sound → r'.Sound) : Noted w r r' :=
  ⟨fun _ => h1, fun _ => h2, fun _ => h3, fun _ => h4, h5, h6⟩

theorem Noted.trans {a c : Touch} {r r' r'' : Recorder} (h : Noted a r r') (h' : Noted c r' r'')
    (hc : allows a.counters c.counters = true) (hr : allows a.recorder c.recorder = true) : Noted c r r'' where
  settings x := (h'.settings x).trans (h.settings (allows_false hr x))
  paceTimer x := (h'.paceTimer x).trans (h.paceTimer (allows_false hr x))
  transferTimer x := (h'.transferTimer x).trans (h.transferTimer (allows_false hr x))
  reports x := (h'.reports x).trans (h.reports (allows_false hr x))
  counters x := (h'.counters x).trans (h.counters (allows_false hc x))
  sound := h'.sound ∘ h.sound

theorem Within.refl (w : Touch) (s : State) : Within w s s where
  mode := rfl
  now := rfl
  clock := rfl
  line := rfl
  pending := rfl
  freeCount := rfl
  lanes _ := rfl
  poses _ := rfl
  site _ := rfl
  air _ := rfl
  access _ := rfl
  gov _ := rfl
  winds _ := rfl
  vanes _ := rfl
  bookings _ := rfl
  mgmt _ := rfl
  sent _ := rfl
  recorder := Noted.refl _ _

/-- Two operations one after the other. -/
theorem Within.then {a c : Touch} {s t u : State} (h : Within a s t) (h' : Within c t u)
    (hac : a.le c = true := by rfl) : Within c s u := by
  simp only [Touch.le, Bool.and_eq_true] at hac
  obtain ⟨⟨⟨⟨⟨⟨⟨⟨⟨⟨⟨⟨l1, l2⟩, l3⟩, l4⟩, l5⟩, l6⟩, l7⟩, l8⟩, l9⟩, l10⟩, l11⟩, l12⟩, l13⟩ := hac
  exact {
    mode := h'.mode.trans h.mode
    now := h'.now.trans h.now
    clock := h'.clock.trans h.clock
    line := h'.line.trans h.line
    pending := h'.pending.trans h.pending
    freeCount := h'.freeCount.trans h.freeCount
    lanes := fun x => (h'.lanes x).trans (h.lanes (allows_false l1 x))
    poses := fun x => (h'.poses x).trans (h.poses (allows_false l2 x))
    site := fun x => (h'.site x).trans (h.site (allows_false l3 x))
    air := fun x => (h'.air x).trans (h.air (allows_false l4 x))
    access := fun x => (h'.access x).trans (h.access (allows_false l5 x))
    gov := fun x => (h'.gov x).trans (h.gov (allows_false l6 x))
    winds := fun x => (h'.winds x).trans (h.winds (allows_false l7 x))
    vanes := fun x => (h'.vanes x).trans (h.vanes (allows_false l8 x))
    bookings := fun x => (h'.bookings x).trans (h.bookings (allows_false l9 x))
    mgmt := fun x => (h'.mgmt x).trans (h.mgmt (allows_false l10 x))
    sent := fun x => (h'.sent x).trans (h.sent (allows_false l11 x))
    recorder := h.recorder.trans h'.recorder l12 l13 }

/-- The last of several operations, within what the ones before it are within. -/
theorem Within.after {a c : Touch} {s t u : State} (h' : Within a t u) (h : Within c s t)
    (hac : a.le c = true := by rfl) : Within c s u :=
  h.then (h'.then (Within.refl c u) hac) (by simp [Touch.le, allows])

/-- Naming more parts. -/
theorem Within.mono {a c : Touch} {s t : State} (h : Within a s t) (hac : a.le c = true := by rfl) : Within c s t :=
  h.then (Within.refl c t) hac

/-- An operation applied to each member of a list in turn. -/
theorem foldl_within {α : Type} {w : Touch} {f : State → α → State} (h : ∀ s a, Within w s (f s a)) (l : List α)
    (s : State) : Within w s (l.foldl f s) := by
  induction l generalizing s with
  | nil => exact Within.refl w s
  | cons a l ih =>
    have hw : w.le w = true := by simp [Touch.le, allows]
    exact (h s a).then (ih (f s a)) hw

/-- A conditional operation. -/
theorem ite_within {w : Touch} {s t u : State} {p : Prop} [Decidable p] (ht : Within w s t) (hu : Within w s u) :
    Within w s (if p then t else u) := by
  split
  · exact ht
  · exact hu

end Sys2Proof.Machine
end

