-- ==== Sys2Proof/Laws/Recorder.lean ====
section
/-! SUPPORT. What counting, offering a report, offering a capture trigger and sending do: each leaves all but its own part
of the state as it was, and a sound recorder sound. -/

namespace Sys2Proof.Machine

set_option Elab.async false

/-! ### Counts (R152) -/

theorem Counter.add_le (c : Counter) (n : Nat) : (c.add n).value ≤ 65535 := by
  unfold Counter.add; split
  · exact Nat.le_refl _
  · dsimp; omega

/-- Writing sound counters of one crane keeps a recorder sound. -/
theorem Recorder.Sound.setCounters {r : Recorder} (h : r.Sound) (k : Crane) (row : Vector Counter 9)
    (hr : ∀ i : Fin 9, (row[i]).value ≤ 65535) : Recorder.Sound { r with counters := r.counters.set k row } := by
  refine ⟨fun j i => ⟨?_, (h.1 j i).2⟩, h.2⟩
  by_cases hjk : k = j
  · subst hjk; simpa using hr i
  · have := (h.1 j i).1
    simpa [Vector.getElem_set, Fin.val_ne_of_ne hjk] using this

/-- A row of cleared counters is in range. -/
theorem zeroRow_le (i : Fin 9) : ((Vector.replicate 9 Counter.zero)[i]).value ≤ 65535 := by simp [Counter.zero]

theorem count_within (k : Crane) (c : CounterId) (n : Nat) (s : State) :
    Within { counters := true } s (count k c n s) where
  mode := rfl
  now := rfl
  clock := rfl
  line := rfl
  pending := rfl
  freeCount := rfl
  lanes _ := rfl
  poses _ := rfl
  site _ := rfl
  air _ := rfl
  access _ := rfl
  gov _ := rfl
  winds _ := rfl
  vanes _ := rfl
  bookings _ := rfl
  mgmt _ := rfl
  sent _ := rfl
  recorder := by
    refine .plain rfl rfl rfl rfl (fun h => Bool.noConfusion h) fun h => h.setCounters k _ fun i => ?_
    by_cases hi : c.idx = i
    · subst hi
      simpa using Counter.add_le _ n
    · have := (h.1 k i).1
      simpa [Vector.getElem_set, Fin.val_ne_of_ne hi] using this

/-! ### Reports (R155) -/

/-- A change of the recorder as `Noted` allows. -/
theorem setRecorder_within {w : Touch} {s : State} {r : Recorder} (h : Noted w s.recorder r) :
    Within w s (s.setRecorder r) where
  mode := rfl
  now := rfl
  clock := rfl
  line := rfl
  pending := rfl
  freeCount := rfl
  lanes _ := rfl
  poses _ := rfl
  site _ := rfl
  air _ := rfl
  access _ := rfl
  gov _ := rfl
  winds _ := rfl
  vanes _ := rfl
  bookings _ := rfl
  mgmt _ := rfl
  sent _ := rfl
  recorder := h

/-- Coalescing keeps an entry's kind and crane. -/
theorem coalesced_apart {l : List Report} (o : Offer) (now : Stamp) (h : l.Pairwise Report.apart) :
    (l.map fun e => if e.matches o then e.coalesce o now else e).Pairwise Report.apart := by
  rw [List.pairwise_map]
  refine h.imp fun {a b} hab => ?_
  unfold Report.apart at *
  split <;> split <;> exact hab

/-- The entries of a queue after coalescing have counts of 1 to 255. -/
theorem coalesced_counts {l : List Report} (o : Offer) (now : Stamp) (h : ∀ e ∈ l, 1 ≤ e.count ∧ e.count ≤ 255) :
    ∀ e ∈ l.map fun e => if e.matches o then e.coalesce o now else e, 1 ≤ e.count ∧ e.count ≤ 255 := by
  intro e he
  obtain ⟨a, ha, rfl⟩ := List.mem_map.1 he
  have := h a ha
  split
  · unfold Report.coalesce; dsimp; omega
  · exact this

/-- A new entry is apart from a queue that holds no match for its report. -/
theorem appended_apart {l : List Report} (o : Offer) (now : Stamp) (h : l.Pairwise Report.apart)
    (hn : ¬ l.any (·.matches o) = true) : (l ++ [o.entry now]).Pairwise Report.apart := by
  rw [List.pairwise_append]
  refine ⟨h, List.pairwise_singleton _ _, fun a ha b hb => ?_⟩
  rw [List.mem_singleton] at hb
  subst hb
  intro hab
  exact hn (List.any_eq_true.2 ⟨a, ha, by simpa [Report.matches, Offer.entry] using hab⟩)

theorem offer_within (o : Offer) (s : State) : Within {} s (offer o s) := by
  unfold offer
  dsimp only
  split
  · split
    · refine setRecorder_within (.plain rfl rfl rfl rfl (fun _ => rfl) fun h => ?_)
      exact ⟨h.1, by simpa using h.2.1, coalesced_apart o _ h.2.2.1, coalesced_counts o _ h.2.2.2.1, h.2.2.2.2⟩
    · rename_i hn
      split
      · rename_i hl
        refine setRecorder_within (.plain rfl rfl rfl rfl (fun _ => rfl) fun h => ?_)
        refine ⟨h.1, by simpa using hl, appended_apart o _ h.2.2.1 hn, fun e he => ?_, h.2.2.2.2⟩
        rcases List.mem_append.1 he with he | he
        · exact h.2.2.2.1 e he
        · rw [List.mem_singleton] at he
          subst he
          exact ⟨Nat.le_refl 1, show 1 ≤ 255 by decide⟩
      · refine setRecorder_within (.plain rfl rfl rfl rfl (fun _ => rfl) fun h => ?_)
        exact ⟨h.1, h.2.1, h.2.2.1, h.2.2.2.1, Nat.min_le_left _ _, h.2.2.2.2.2⟩
  · exact Within.refl _ _

/-! ### Captures (R159) -/

theorem trigger_within (t : TriggerKind) (k : Option Crane) (z : Option Zone) (s : State) :
    Within {} s (trigger t k z s) := by
  unfold trigger
  dsimp only
  split
  · split
    · refine Within.then (a := {}) ?_ (offer_within _ _)
      exact setRecorder_within (.plain rfl rfl rfl rfl (fun _ => rfl) id)
    · refine setRecorder_within (.plain rfl rfl rfl rfl (fun _ => rfl) fun h => ?_)
      exact ⟨h.1, h.2.1, h.2.2.1, h.2.2.2.1, h.2.2.2.2.1, Nat.min_le_left _ _⟩
  · exact Within.refl _ _

/-! ### Records and frames -/

theorem setLane_within (s : State) (k : Crane) (l : Lane) : Within { lanes := true } s (s.setLane k l) := by
  constructor <;> first | rfl | exact Noted.refl _ _ | (intro h; first | rfl | cases h)

theorem setPose_within (s : State) (k : Crane) (p : Option Pose) : Within { poses := true } s (s.setPose k p) := by
  constructor <;> first | rfl | exact Noted.refl _ _ | (intro h; first | rfl | cases h)

theorem setGov_within (s : State) (k : Crane) (g : GovRec) : Within { gov := true } s (s.setGov k g) := by
  constructor <;> first | rfl | exact Noted.refl _ _ | (intro h; first | rfl | cases h)

theorem setWind_within (s : State) (k : Crane) (w : WindRec) : Within { winds := true } s (s.setWind k w) := by
  constructor <;> first | rfl | exact Noted.refl _ _ | (intro h; first | rfl | cases h)

theorem setVane_within (s : State) (k : Crane) (v : VaneRec) : Within { vanes := true } s (s.setVane k v) := by
  constructor <;> first | rfl | exact Noted.refl _ _ | (intro h; first | rfl | cases h)

theorem setZone_within (s : State) (z : Zone) (r : ZoneRec) : Within { air := true } s (s.setZone z r) := by
  constructor <;> first | rfl | exact Noted.refl _ _ | (intro h; first | rfl | cases h)

theorem setArb_within (s : State) (k : Crane) (a : ArbRec) : Within { air := true } s (s.setArb k a) := by
  constructor <;> first | rfl | exact Noted.refl _ _ | (intro h; first | rfl | cases h)

theorem setPerm_within (s : State) (z : Zone) (p : Perm) : Within { access := true } s (s.setPerm z p) := by
  constructor <;> first | rfl | exact Noted.refl _ _ | (intro h; first | rfl | cases h)

theorem setGrants_within (s : State) (g : List Grant) : Within { access := true } s (s.setGrants g) := by
  constructor <;> first | rfl | exact Noted.refl _ _ | (intro h; first | rfl | cases h)

theorem setSite_within (s : State) (t : Site) : Within { site := true } s (s.setSite t) := by
  constructor <;> first | rfl | exact Noted.refl _ _ | (intro h; first | rfl | cases h)

theorem setMgmt_within (s : State) (m : Mgmt) : Within { mgmt := true } s (s.setMgmt m) := by
  constructor <;> first | rfl | exact Noted.refl _ _ | (intro h; first | rfl | cases h)

theorem setBookings_within (s : State) (b : List Booking) : Within { bookings := true } s (s.setBookings b) := by
  constructor <;> first | rfl | exact Noted.refl _ _ | (intro h; first | rfl | cases h)

theorem send_within (p : Port) (bs : List Byte) (s : State) : Within { sent := true } s (send p bs s) := by
  constructor <;> first | rfl | exact Noted.refl _ _ | (intro h; first | rfl | cases h)

/-! ### Reported changes of state (R29, R33, R35, R119) -/

theorem setLaneState_within (k : Crane) (new : LaneState) (s : State) :
    Within { lanes := true } s (setLaneState k new s) := by
  unfold setLaneState
  exact ite_within (setLane_within _ _ _) ((setLane_within _ _ _).then (offer_within _ _).mono)

theorem setCabState_within (k : Crane) (new : CabState) (s : State) :
    Within { lanes := true } s (setCabState k new s) := by
  unfold setCabState
  exact ite_within (setLane_within _ _ _) ((setLane_within _ _ _).then (offer_within _ _).mono)

theorem setControl_within (k : Crane) (new : ControlState) (s : State) :
    Within { lanes := true } s (setControl k new s) := by
  unfold setControl
  exact ite_within (setLane_within _ _ _) ((setLane_within _ _ _).then (offer_within _ _).mono)

theorem setVaneRec_within (k : Crane) (v : VaneRec) (s : State) : Within { vanes := true } s (setVaneRec k v s) := by
  unfold setVaneRec
  exact ite_within (setVane_within _ _ _) ((setVane_within _ _ _).then (offer_within _ _).mono)

end Sys2Proof.Machine
end

