-- ==== Sys2Proof/Laws/FramesAir.lean ====
section
/-! SUPPORT. Frames of the operations of the Zone Arbiter's queues and of the Booking Table: what each leaves as it was. -/

namespace Sys2Proof.Machine

set_option Elab.async false

/-! ### Queues, marks, reservations (R44, R53 to R56, R58, R59) -/

theorem acquire_within (k : Crane) (z : Zone) (h : HoldKind) (s : State) :
    Within { air := true } s (acquire k z h s) := setZone_within _ _ _

theorem setKind_within (z : Zone) (h : HoldKind) (s : State) : Within { air := true } s (setKind z h s) :=
  setZone_within _ _ _

theorem markVacate_within (z : Zone) (c : VacateCause) (s : State) : Within { air := true } s (markVacate z c s) := by
  unfold markVacate
  split
  · exact Within.refl _ _
  · exact ite_within (Within.refl _ _) ((offer_within _ _).after (setZone_within _ _ _))

theorem clearIdleMark_within (z : Zone) (s : State) : Within { air := true } s (clearIdleMark z s) := by
  unfold clearIdleMark
  exact ite_within (setZone_within _ _ _) (Within.refl _ _)

theorem judgeLimit_within (z : Zone) (s : State) : Within { air := true } s (judgeLimit z s) := by
  unfold judgeLimit
  exact ite_within (markVacate_within _ _ _) (Within.refl _ _)

theorem refreshEntry_within (c : Crane) (z : Zone) (s : State) : Within { air := true } s (refreshEntry c z s) :=
  setZone_within _ _ _

theorem removeEntry_within (c : Crane) (z : Zone) (s : State) : Within { air := true } s (removeEntry c z s) :=
  (clearIdleMark_within _ _).after (setZone_within _ _ _)

theorem settleEntry_within (c : Crane) (z : Zone) (s : State) : Within { air := true } s (settleEntry c z s) := by
  unfold settleEntry
  exact ite_within (refreshEntry_within _ _ _) (removeEntry_within _ _ _)

theorem joinQueue_within (c : Crane) (z : Zone) (s : State) : Within { air := true } s (joinQueue c z s) := by
  unfold joinQueue
  exact ite_within (refreshEntry_within _ _ _) ((judgeLimit_within _ _).after (setZone_within _ _ _))

theorem withdrawWait_within (c : Crane) (s : State) : Within { air := true } s (withdrawWait c s) := by
  unfold withdrawWait
  split
  · exact Within.refl _ _
  · exact (settleEntry_within _ _ _).after (setArb_within _ _ _)

theorem withdrawReservation_within (c : Crane) (s : State) : Within { air := true } s (withdrawReservation c s) := by
  unfold withdrawReservation
  split
  · exact Within.refl _ _
  · exact (settleEntry_within _ _ _).after (setArb_within _ _ _)

theorem rejudgeEntries_within (c : Crane) (s : State) : Within { air := true } s (rejudgeEntries c s) := by
  unfold rejudgeEntries
  dsimp only
  split <;> split <;>
    first
      | exact Within.refl _ _
      | exact refreshEntry_within _ _ _
      | exact (refreshEntry_within _ _ _).after (refreshEntry_within _ _ _)

theorem dropEntry_within (c : Crane) (z : Zone) (s : State) : Within { air := true } s (dropEntry c z s) :=
  (removeEntry_within _ _ _).after (setArb_within _ _ _)

theorem placeReservation_within (k : Crane) (s : State) : Within { air := true } s (placeReservation k s) := by
  unfold placeReservation
  split
  · exact withdrawReservation_within _ _
  · exact (joinQueue_within _ _ _).after ((setArb_within _ _ _).after
      (ite_within (Within.refl _ _) (withdrawReservation_within _ _)))

/-! ### Release and grant (R51, R52, R122) -/

theorem checkVaning_within (k : Crane) (s : State) : Within { vanes := true } s (checkVaning k s) := by
  unfold checkVaning
  exact ite_within (setVaneRec_within _ _ _) (Within.refl _ _)

theorem grant_within (c : Crane) (z : Zone) (s : State) : Within { air := true } s (grant c z s) := by
  unfold grant
  refine (judgeLimit_within _ _).after ?_
  exact ite_within
    ((placeReservation_within _ _).after ((acquire_within _ _ _ _).after (dropEntry_within _ _ _)))
    ((acquire_within _ _ _ _).after (dropEntry_within _ _ _))

theorem offerGrant_within (z : Zone) (es : List Entry) (s : State) : Within { air := true } s (offerGrant z es s) := by
  induction es generalizing s with
  | nil => exact Within.refl _ _
  | cons e es ih =>
    unfold offerGrant
    exact ite_within (grant_within _ _ _) ((ih _).after ((offer_within _ _).after (dropEntry_within _ _ _)))

theorem release_within (z : Zone) (s : State) : Within { air := true, vanes := true } s (release z s) := by
  unfold release
  dsimp only
  split
  · exact (checkVaning_within _ _).after ((setZone_within _ _ _).after
      ((dropEntry_within _ _ _).after (setZone_within _ _ _).mono))
  · exact (offerGrant_within _ _ _).after (setZone_within _ _ _).mono

/-! ### Demands sent (R41) -/

theorem sendDemand_within (k : Crane) (v : PerAxis Int) (c : PerAxis Bool) (r : ReasonFlags) (sub : Bool) (s : State) :
    Within { lanes := true, sent := true } s (sendDemand k v c r sub s) :=
  (setLane_within _ _ _).after (send_within _ _ _).mono

/-! ### Bookings (R134 to R149) -/

theorem updateBooking_within (id : Nat) (f : Booking → Booking) (s : State) :
    Within { bookings := true } s (updateBooking id f s) := setBookings_within _ _

theorem reportBooking_within (id : Nat) (s : State) : Within {} s (reportBooking id s) := by
  unfold reportBooking
  split
  · exact Within.refl _ _
  · exact offer_within _ _

theorem reportOvertime_within (id : Nat) (s : State) : Within {} s (reportOvertime id s) := by
  unfold reportOvertime
  split
  · exact Within.refl _ _
  · exact offer_within _ _

theorem letGo_within (k : Crane) (keep : List Zone) (s : State) :
    Within { air := true, vanes := true } s (letGo k keep s) := by
  refine foldl_within (fun s z => ?_) _ _
  unfold letGoZone
  exact ite_within (ite_within ((judgeLimit_within _ _).after (setKind_within _ _ _).mono) (release_within _ _))
    (Within.refl _ _)

theorem takeLegZone_within (k : Crane) (s : State) (z : Zone) : Within { air := true } s (takeLegZone k s z) := by
  unfold takeLegZone
  split
  · exact ite_within (acquire_within _ _ _ _) (Within.refl _ _)
  · exact ite_within (setKind_within _ _ _) (Within.refl _ _)
  · exact Within.refl _ _

theorem legEntry_within (k : Crane) (s : State) : Within { air := true } s (legEntry k s) :=
  (rejudgeEntries_within _ _).after
    ((placeReservation_within _ _).after (foldl_within (takeLegZone_within k) _ _))

theorem giveUp_within (k : Crane) (s : State) : Within { air := true, vanes := true } s (giveUp k s) :=
  (rejudgeEntries_within _ _).after ((withdrawReservation_within _ _).after (letGo_within _ _ _))

theorem judgeLoad_within (id load : Nat) (s : State) : Within { bookings := true } s (judgeLoad id load s) := by
  unfold judgeLoad
  split
  · exact Within.refl _ _
  · exact ite_within ((offer_within _ _).after (updateBooking_within _ _ _)) (Within.refl _ _)

theorem noteLoad_within (k : Crane) (s : State) : Within { bookings := true } s (noteLoad k s) := by
  unfold noteLoad
  split
  · exact (judgeLoad_within _ _ _).after (updateBooking_within _ _ _)
  · exact Within.refl _ _

theorem countIntrusion_within (k : Crane) (s : State) :
    Within { bookings := true, counters := true } s (countIntrusion k s) := by
  unfold countIntrusion
  dsimp only
  split
  · exact (count_within _ _ _ _).mono
  · exact (updateBooking_within _ _ _).after (count_within _ _ _ _).mono

theorem noteChartOverrun_within (k : Crane) (s : State) : Within { bookings := true } s (noteChartOverrun k s) := by
  unfold noteChartOverrun
  split
  · exact ite_within (updateBooking_within _ _ _) (Within.refl _ _)
  · exact Within.refl _ _

/-- The frame of a booking step. -/
abbrev Touch.step : Touch := { air := true, vanes := true, bookings := true }

theorem suspend_within (k : Crane) (why : SuspendReason) (s : State) : Within Touch.step s (suspend k why s) := by
  unfold suspend
  split
  · exact Within.refl _ _
  · refine (reportBooking_within _ _).after ((giveUp_within _ _).after ?_)
    exact ite_within (updateBooking_within _ _ _).mono (updateBooking_within _ _ _).mono

theorem judgeResume_within (k : Crane) (s : State) :
    Within { air := true, bookings := true } s (judgeResume k s) := by
  unfold judgeResume
  split
  · exact Within.refl _ _
  · exact ite_within ((reportBooking_within _ _).after
      ((legEntry_within _ _).after (updateBooking_within _ _ _).mono)) (Within.refl _ _)

theorem haltState_within (k : Crane) (s : State) :
    Within { lanes := true, air := true, vanes := true, bookings := true } s (haltState k s) := by
  unfold haltState
  exact ite_within (Within.refl _ _) ((suspend_within _ _ _).after (setControl_within _ _ _).mono)

theorem runState_within (k : Crane) (s : State) :
    Within { lanes := true, air := true, bookings := true } s (runState k s) := by
  unfold runState
  exact ite_within (Within.refl _ _) ((judgeResume_within _ _).after (setControl_within _ _ _).mono)

theorem beginLift_within (k : Crane) (b : Booking) (s : State) : Within Touch.step s (beginLift k b s) :=
  (reportBooking_within _ _).after ((legEntry_within _ _).after
    ((judgeLoad_within _ _ _).after (updateBooking_within _ _ _).mono))

theorem advanceLeg_within (k : Crane) (b : Booking) (s : State) : Within Touch.step s (advanceLeg k b s) := by
  unfold advanceLeg
  refine (legEntry_within _ _).after ?_
  have h : Within Touch.step s (letGo k (currentLeg (updateBooking b.id (fun b => { b with leg := b.leg + 1 }) s) k)
      (updateBooking b.id (fun b => { b with leg := b.leg + 1 }) s)) :=
    (letGo_within _ _ _).after (updateBooking_within _ _ _).mono
  split
  · exact h
  · exact ite_within h ((withdrawReservation_within _ _).after h)

theorem endLift_within (k : Crane) (b : Booking) (s : State) : Within Touch.step s (endLift k b s) :=
  (reportBooking_within _ _).after ((giveUp_within _ _).after (updateBooking_within _ _ _).mono)

theorem cancelLift_within (b : Booking) (s : State) : Within Touch.step s (cancelLift b s) :=
  (reportBooking_within _ _).after
    (ite_within ((giveUp_within _ _).after (updateBooking_within _ _ _).mono) (updateBooking_within _ _ _).mono)

theorem stepBegin_within (k : Crane) (b : Booking) (s : State) : Within Touch.step s (stepBegin k b s).2 := by
  unfold stepBegin
  split
  · exact Within.refl _ _
  · exact beginLift_within _ _ _

theorem stepLegDone_within (k : Crane) (b : Booking) (s : State) : Within Touch.step s (stepLegDone k b s).2 := by
  unfold stepLegDone
  split
  · split
    · dsimp only; exact advanceLeg_within _ _ _
    · exact Within.refl _ _
  all_goals exact Within.refl _ _

theorem stepEnd_within (k : Crane) (b : Booking) (s : State) : Within Touch.step s (stepEnd k b s).2 := by
  unfold stepEnd
  split
  · dsimp only; exact endLift_within _ _ _
  all_goals exact Within.refl _ _

theorem stepAbandon_within (b : Booking) (s : State) : Within Touch.step s (stepAbandon b s).2 := by
  unfold stepAbandon
  split
  · exact Within.refl _ _
  · exact cancelLift_within _ _

theorem bookingStep_within (k : Crane) (step id : Nat) (s : State) :
    Within Touch.step s (bookingStep k step id s).2 := by
  unfold bookingStep
  split
  · exact Within.refl _ _
  split
  · exact Within.refl _ _
  split
  · exact Within.refl _ _
  split
  · exact stepBegin_within _ _ _
  split
  · exact stepLegDone_within _ _ _
  split
  · exact stepEnd_within _ _ _
  · exact stepAbandon_within _ _

theorem openWindow_within (id : Nat) (s : State) : Within { bookings := true } s (openWindow id s) :=
  (reportBooking_within _ _).after (updateBooking_within _ _ _)

theorem closeWindow_within (b : Booking) (s : State) : Within { bookings := true } s (closeWindow b s) := by
  unfold closeWindow
  split
  · exact (reportBooking_within _ _).after (updateBooking_within _ _ _)
  · exact (reportBooking_within _ _).after (updateBooking_within _ _ _)
  · exact ite_within (Within.refl _ _) ((reportOvertime_within _ _).after (updateBooking_within _ _ _))
  all_goals exact Within.refl _ _

end Sys2Proof.Machine
end

