-- ==== Sys2Proof/Laws/FramesBlocks.lean ====
section
/-! SUPPORT. Frames of the operations of the other blocks: Zone Arbiter on poses and demands, Access Control, Motion Governor,
Wind Monitor, Vane Control, Site Tables, Lane Interface. -/

namespace Sys2Proof.Machine

set_option Elab.async false

/-! ### Wait cycles and waits (R54, R60 to R63) -/

theorem setYield_within (v : Crane) (z : Zone) (s : State) : Within { air := true } s (setYield v z s) :=
  (offer_within _ _).after (setArb_within _ _ _)

theorem clearYield_within (k : Crane) (s : State) : Within { air := true } s (clearYield k s) := setArb_within _ _ _

theorem markCycle_within (v : Crane) (m : List Crane) (also : Option Zone) (s : State) :
    Within { air := true } s (markCycle v m also s) :=
  foldl_within (fun _ _ => ite_within (markVacate_within _ _ _) (Within.refl _ _)) _ _

theorem yieldRequester_within (x : Crane) (z : Zone) (cs : List Crane) (s : State) :
    Within { air := true } s (yieldRequester x z cs s) :=
  (markCycle_within _ _ _ _).after ((setYield_within _ _ _).after (withdrawWait_within _ _))

theorem yieldOther_within (x v : Crane) (z : Zone) (cs : List Crane) (s : State) :
    Within { air := true } s (yieldOther x v z cs s) := by
  unfold yieldOther
  split
  · exact Within.refl _ _
  · exact (markCycle_within _ _ _ _).after ((setYield_within _ _ _).after (withdrawWait_within _ _))

theorem enqueueWait_within (k : Crane) (z : Zone) (u : Use) (s : State) :
    Within { air := true } s (enqueueWait k z u s) :=
  (clearYield_within _ _).after ((joinQueue_within _ _ _).after ((setArb_within _ _ _).after
    (ite_within (Within.refl _ _) (withdrawWait_within _ _))))

theorem requestWait_within (k : Crane) (z : Zone) (u : Use) (s : State) :
    Within { air := true } s (requestWait k z u s) := by
  unfold requestWait
  split
  · exact Within.refl _ _
  split
  · exact enqueueWait_within _ _ _ _
  · exact ite_within (yieldRequester_within _ _ _ _) ((enqueueWait_within _ _ _ _).after (yieldOther_within _ _ _ _ _))

theorem dropWait_within (k : Crane) (s : State) : Within { air := true } s (dropWait k s) :=
  (clearYield_within _ _).after (withdrawWait_within _ _)

theorem reloadTimer_within (k : Crane) (v : PerAxis Int) (s : State) :
    Within { air := true } s (reloadTimer k v s) := by
  unfold reloadTimer
  split
  · exact Within.refl _ _
  split
  · exact Within.refl _ _
  · exact setArb_within _ _ _

theorem restartTimer_within (k : Crane) (s : State) : Within { air := true } s (restartTimer k s) :=
  setArb_within _ _ _

/-! ### Judging a pose (R46 to R50, R78) -/

/-- The frame of the footprint step. -/
abbrev Touch.footprint : Touch := { air := true, bookings := true, counters := true }

theorem intrude_within (k : Crane) (z : Zone) (s : State) : Within Touch.footprint s (intrude k z s) :=
  (trigger_within _ _ _ _).after ((offer_within _ _).after ((countIntrusion_within _ _).after
    (acquire_within _ _ _ _).mono))

theorem breach_within (k : Crane) (z : Zone) (u : Use) (s : State) : Within Touch.footprint s (breach k z u s) :=
  (trigger_within _ _ _ _).after ((offer_within _ _).after ((countIntrusion_within _ _).after
    (acquire_within _ _ _ _).mono))

theorem takeExitOnly_within (k : Crane) (z : Zone) (u : Use) (s : State) :
    Within { air := true } s (takeExitOnly k z u s) :=
  (offer_within _ _).after (acquire_within _ _ _ _)

theorem overlap_within (k : Crane) (z : Zone) (j : Crane) (s : State) :
    Within { counters := true } s (overlap k z j s) :=
  (trigger_within _ _ _ _).after ((offer_within _ _).after (count_within _ _ _ _))

theorem footprintZone_within (k : Crane) (f : List Occ) (settling : Bool) (old : List Zone) (s : State) (z : Zone) :
    Within Touch.footprint s (footprintZone k f settling old s z) := by
  unfold footprintZone
  split
  · exact Within.refl _ _
  split
  · exact ite_within (Within.refl _ _) (overlap_within _ _ _ _).mono
  · exact ite_within (ite_within (acquire_within _ _ _ _).mono (intrude_within _ _ _))
      (ite_within (takeExitOnly_within _ _ _ _).mono (breach_within _ _ _ _))

theorem entitlementZone_within (k : Crane) (f : List Occ) (s : State) (z : Zone) :
    Within { air := true } s (entitlementZone k f s z) := by
  unfold entitlementZone
  split
  · exact Within.refl _ _
  · exact ite_within ((trigger_within _ _ _ _).after ((offer_within _ _).after (setKind_within _ _ _)))
      (Within.refl _ _)

theorem footprintStep_within (k : Crane) (f : List Occ) (settling : Bool) (s : State) :
    Within Touch.footprint s (footprintStep k f settling s) := by
  unfold footprintStep
  refine (foldl_within (entitlementZone_within k f) _ _).after ((setArb_within _ _ _).after ?_)
  exact foldl_within (footprintZone_within k f settling _) _ _

theorem toMotion_within (z : Zone) (s : State) : Within { air := true } s (toMotion z s) :=
  (judgeLimit_within _ _).after (setKind_within _ _ _)

theorem releaseZone_within (k : Crane) (f reach : List Occ) (brake : Bool) (s : State) (z : Zone) :
    Within { air := true, vanes := true } s (releaseZone k f reach brake s z) := by
  have hr := release_within z s
  have hm : Within { air := true, vanes := true } s (toMotion z s) := (toMotion_within z s).mono
  have hs := Within.refl { air := true, vanes := true } s
  unfold releaseZone
  dsimp only
  split
  · exact hs
  · exact hs
  · refine ite_within hs ?_
    split
    · exact ite_within hs hr
    · exact ite_within hr hs
    · exact ite_within (ite_within hs hr) (ite_within hs hr)
    · exact ite_within hs (ite_within (ite_within hm hr) (ite_within hm hr))

theorem releaseStep_within (k : Crane) (f reach : List Occ) (brake : Bool) (s : State) :
    Within { air := true, vanes := true } s (releaseStep k f reach brake s) :=
  foldl_within (releaseZone_within k f reach brake) _ _

/-- The frame of a judged pose in the Zone Arbiter. -/
abbrev Touch.judged : Touch := { lanes := true, air := true, vanes := true, bookings := true, counters := true }

theorem judgePose_within (k : Crane) (s : State) : Within Touch.judged s (judgePose k s) := by
  have h : Within Touch.judged s (releaseStep k (footprint s k)
      (reachSet (footprintStep k (footprint s k) (s.arb k).settling s) k)
      (brakeReleased (footprintStep k (footprint s k) (s.arb k).settling s) k)
      (footprintStep k (footprint s k) (s.arb k).settling s)) :=
    (releaseStep_within _ _ _ _ _).after (footprintStep_within _ _ _ _).mono
  unfold judgePose
  dsimp only
  split
  · exact (setArb_within _ _ _).after h
  · refine Within.after (a := Touch.judged) (foldl_within (fun s j => (haltState_within j s).mono) _ _) ?_
    exact (haltState_within _ _).after ((setArb_within _ _ _).after h)

/-! ### Stale lanes and restarts (R64 to R66) -/

theorem freeze_within (k : Crane) (s : State) : Within { air := true } s (freeze k s) := by
  unfold freeze
  refine (withdrawWait_within _ _).after (foldl_within (fun s z => ?_) _ _)
  unfold freezeZone
  exact ite_within (setKind_within _ _ _) (Within.refl _ _)

theorem widenZone_within (k : Crane) (w : List Occ) (s : State) (z : Zone) :
    Within { air := true } s (widenZone k w s z) := by
  unfold widenZone
  split
  · exact Within.refl _ _
  split
  · exact ite_within (acquire_within _ _ _ _) (Within.refl _ _)
  · exact ite_within (Within.refl _ _) (offer_within _ _).mono

theorem widen_within (k : Crane) (s : State) : Within { air := true } s (widen k s) :=
  foldl_within (widenZone_within k _) _ _

theorem leaveLive_within (k : Crane) (s : State) : Within { air := true } s (leaveLive k s) :=
  (setArb_within _ _ _).after (withdrawWait_within _ _)

theorem unsweepZone_within (k : Crane) (s : State) (z : Zone) : Within { air := true } s (unsweepZone k s z) := by
  unfold unsweepZone
  split
  · exact Within.refl _ _
  · exact Within.refl _ _
  · exact ite_within (setZone_within _ _ _) (Within.refl _ _)

theorem unpendZone_within (k : Crane) (s : State) (z : Zone) : Within { air := true } s (unpendZone k s z) := by
  unfold unpendZone
  exact ite_within ((clearIdleMark_within _ _).after (setZone_within _ _ _)) (Within.refl _ _)

theorem freezeZone_within (k : Crane) (s : State) (z : Zone) : Within { air := true } s (freezeZone k s z) := by
  unfold freezeZone
  exact ite_within (setKind_within _ _ _) (Within.refl _ _)

theorem restartArbiter_within (k : Crane) (s : State) : Within { air := true } s (restartArbiter k s) := by
  unfold restartArbiter
  refine (setArb_within _ _ _).after (ite_within ?_ (Within.refl _ _))
  exact (withdrawReservation_within _ _).after ((withdrawWait_within _ _).after
    ((foldl_within (unpendZone_within k) _ _).after ((foldl_within (unsweepZone_within k) _ _).after
      (foldl_within (freezeZone_within k) _ _))))

/-! ### Access Control (R69 to R75, R79, R80) -/

theorem reexamine_within (before s : State) : Within { air := true, vanes := true } s (reexamine before s) := by
  unfold reexamine
  refine Within.after (a := { air := true }) (foldl_within (fun s z => ?_) _ _) (foldl_within (fun s z => ?_) _ _)
  · unfold restoreZone
    split
    · exact Within.refl _ _
    · exact Within.refl _ _
    refine ite_within ?_ (Within.refl _ _)
    split
    · exact Within.refl _ _
    · exact ite_within ((judgeLimit_within _ _).after (setKind_within _ _ _)) (Within.refl _ _)
  · unfold reexamineZone
    split
    · exact Within.refl _ _
    · exact Within.refl _ _
    refine ite_within ?_ (Within.refl _ _)
    split
    · exact release_within _ _
    · exact ite_within (Within.refl _ _) ((offer_within _ _).after (setKind_within _ _ _).mono)

theorem revertPerm_within (z : Zone) (s : State) : Within { access := true } s (revertPerm z s) := setPerm_within _ _ _

theorem alignPerm_within (old : Option ZoneTable) (s : State) (z : Zone) :
    Within { access := true } s (alignPerm old s z) := by
  unfold alignPerm
  dsimp only
  split
  · exact ite_within (Within.refl _ _) (setPerm_within _ _ _)
  · exact (setGrants_within _ _).after (setPerm_within _ _ _)

/-- The frame of a permission change. -/
abbrev Touch.permission : Touch := { air := true, vanes := true, access := true }

theorem expireOverride_within (z : Zone) (s : State) : Within Touch.permission s (expireOverride z s) :=
  (reexamine_within _ _).after ((offer_within _ _).after (revertPerm_within _ _).mono)

theorem expireGrant_within (g : Grant) (s : State) : Within Touch.permission s (expireGrant g s) :=
  (reexamine_within _ _).after ((offer_within _ _).after (setGrants_within _ _).mono)

/-! ### Motion Governor (R84 to R101) -/

theorem takeAhead_within (k : Crane) (s : State) (z : Zone) : Within { air := true } s (takeAhead k s z) :=
  acquire_within _ _ _ _

theorem scanFrom_within (k : Crane) (p : Pose) (positive take : Bool) (reach left j : Nat) (s : State) :
    Within { air := true } s (scanFrom k p positive take reach left j s).2 := by
  induction left generalizing j s with
  | zero => exact Within.refl _ _
  | succ left ih =>
    have h1 : Within { air := true } s (if take then
        ((zonesInClass s k (footprintAt s k p (sectorStep positive (sectorOf p.theta) j)) .acquirable).map
          (·.zone)).foldl (takeAhead k) s else s) :=
      ite_within (foldl_within (takeAhead_within k) _ _) (Within.refl _ _)
    unfold scanFrom
    dsimp only
    split
    · exact Within.refl _ _
    · split
      · exact h1
      · exact h1.then (ih _ _)

theorem slewScan_within (k : Crane) (p : Pose) (prof : Profile) (positive take : Bool) (v : Nat) (s : State) :
    Within { air := true } s (slewScan k p prof positive take v s).2 := by
  unfold slewScan
  dsimp only
  split
  · exact Within.refl _ _
  · have h := scanFrom_within k p positive take (stopDist prof.dyn.slew v + prof.dyn.slew.clearance) 128 1 s
    split <;> (rename_i he; rw [he] at h; exact h)

theorem trolleyScan_within (k : Crane) (p : Pose) (prof : Profile) (outward : Bool) (v : Nat) (s : State) :
    Within { air := true } s (trolleyScan k p prof outward v s).2 := by
  unfold trolleyScan
  split
  · exact Within.refl _ _
  · exact foldl_within (takeAhead_within k) _ _

theorem hoistLower_within (k : Crane) (p : Pose) (prof : Profile) (v : Nat) (s : State) :
    Within { air := true } s (hoistLower k p prof v s).2 := foldl_within (takeAhead_within k) _ _

theorem searchAxis_within (k : Crane) (p : Pose) (prof : Profile) (a : Axis) (q : Int) (v : Nat) (s : State) :
    Within { air := true } s (searchAxis k p prof a q v s).2 := by
  cases a
  · exact slewScan_within _ _ _ _ _ _ _
  · exact trolleyScan_within _ _ _ _ _ _
  · unfold searchAxis
    dsimp only
    split
    · exact hoistLower_within _ _ _ _ _
    · exact Within.refl _ _

theorem evalAxis_within (k : Crane) (p : Pose) (prof : Profile) (a : Axis) (q : Int) (s : State) :
    Within { air := true } s (evalAxis k p prof a q s).2 := by
  unfold evalAxis
  dsimp only
  split
  · exact Within.refl _ _
  split
  · exact Within.refl _ _
  · exact searchAxis_within _ _ _ _ _ _ _

theorem placeWait_within (k : Crane) (bs : List (Option Boundary)) (s : State) :
    Within { air := true } s (placeWait k bs s) := by
  unfold placeWait
  split
  · exact dropWait_within _ _
  · exact requestWait_within _ _ _ _

theorem countClamps_within (k : Crane) (c : PerAxis Bool) (s : State) :
    Within { counters := true } s (countClamps k c s) := by
  have h (b : Bool) (i : CounterId) (t : State) (ht : Within { counters := true } s t) :
      Within { counters := true } s (if b then count k i 1 t else t) :=
    ite_within ((count_within _ _ _ _).after ht) ht
  exact h _ _ _ (h _ _ _ (h _ _ _ (Within.refl _ _)))

/-- The frame of an evaluated demand. -/
abbrev Touch.governed : Touch := { air := true, gov := true, counters := true }

theorem evaluate_within (k : Crane) (p : Pose) (prof : Profile) (q : PerAxis Int) (s : State) :
    Within Touch.governed s (evaluate k p prof q s).2 := by
  unfold evaluate
  exact (setGov_within _ _ _).after ((countClamps_within _ _ _).after ((placeWait_within _ _ _).after
    ((evalAxis_within _ _ _ _ _ _).after ((evalAxis_within _ _ _ _ _ _).after (evalAxis_within _ _ _ _ _ _).mono))))

theorem zeroDemand_within (k : Crane) (q : PerAxis Int) (s : State) :
    Within { gov := true } s (zeroDemand k q s).2 := setGov_within _ _ _

theorem govern_within (k : Crane) (q : PerAxis Int) (s : State) : Within Touch.governed s (govern k q s).2 := by
  unfold govern
  split
  · exact (zeroDemand_within _ _ _).mono
  split
  · exact evaluate_within _ _ _ _ _
  · exact (zeroDemand_within _ _ _).mono

/-! ### A crane that is not present (R1) -/

@[simp] theorem inForce_of_present {α : Type} {s : State} {k : Crane} (h : cranePresent s k = true) (t : Option α) :
    inForce s k t = t := by simp [inForce, h]

@[simp] theorem inForce_of_absent {α : Type} {s : State} {k : Crane} (h : cranePresent s k = false) (t : Option α) :
    inForce s k t = none := by simp [inForce, h]

/-- A crane that is not present shows no overrun (R1, R100). -/
theorem overrunOf_of_absent {s : State} {k : Crane} (h : cranePresent s k = false) : overrunOf k s = none := by
  unfold overrunOf
  rw [inForce_of_absent h]
  cases s.pose k <;> rfl

/-- The chart of a crane that is not present is judged CLEAR (R1, R96). -/
theorem chartResult_of_absent {s : State} {k : Crane} (h : cranePresent s k = false) : chartResult s k = .clear := by
  simp [chartResult, inOverload, limitOf, inForce_of_absent h]

theorem overrunCheck_within (k : Crane) (s : State) :
    Within { gov := true, counters := true } s (overrunCheck k s) := by
  unfold overrunCheck
  split
  · exact (setGov_within _ _ _).mono
  · refine ite_within (Within.refl _ _) ((setGov_within _ _ _).after ?_)
    exact (trigger_within _ _ _ _).after ((offer_within _ _).after (count_within _ _ _ _).mono)

theorem chartJudge_within (k : Crane) (s : State) : Within { gov := true, bookings := true } s (chartJudge k s) := by
  unfold chartJudge
  refine (setGov_within _ _ _).after (ite_within (Within.refl _ _) ?_)
  exact (noteChartOverrun_within _ _).after (offer_within _ _).mono

theorem clearMarks_within (k : Crane) (s : State) : Within { gov := true } s (clearMarks k s) := setGov_within _ _ _

/-! ### Wind Monitor (R103 to R117) -/

theorem setLevel_within (k : Crane) (new : WindLevel) (s : State) : Within { winds := true } s (setLevel k new s) := by
  unfold setLevel
  exact ite_within (setWind_within _ _ _) ((offer_within _ _).after (setWind_within _ _ _))

theorem judgeRaise_within (k : Crane) (p : Policy) (figure : Nat) (s : State) :
    Within { winds := true } s (judgeRaise k p figure s) := by
  unfold judgeRaise
  dsimp only
  split
  · exact setWind_within _ _ _
  · exact (setLevel_within _ _ _).after (setWind_within _ _ _)

theorem judgeClear_within (k : Crane) (p : Policy) (figure : Nat) (s : State) :
    Within { winds := true } s (judgeClear k p figure s) := by
  unfold judgeClear
  exact ite_within (Within.refl _ _) (ite_within (setWind_within _ _ _) (ite_within (setWind_within _ _ _)
    ((setLevel_within _ _ _).after (setWind_within _ _ _))))

theorem commitResult_within (k : Crane) (tag : Option Byte) (outcome : Nat) (s : State) :
    Within {} s (commitResult k tag outcome s) := offer_within _ _

/-- The frame of a wind sample. -/
abbrev Touch.sample : Touch := { winds := true, site := true, mgmt := true }

theorem applyPolicy_within (k : Crane) (p : Policy) (s : State) : Within Touch.sample s (applyPolicy k p s) :=
  (commitResult_within _ _ _ _).after ((setWind_within _ _ _).after ((setMgmt_within _ _).after
    (setSite_within _ _).mono))

theorem policyStep_within (k : Crane) (s : State) : Within Touch.sample s (policyStep k s) := by
  unfold policyStep
  split
  · exact Within.refl _ _
  · exact ite_within (applyPolicy_within _ _ _) (Within.refl _ _)

theorem qualify_within (k : Crane) (x : Nat) (s : State) : Within Touch.sample s (qualify k x s).2 := by
  unfold qualify
  have h : Within Touch.sample s (policyStep k (s.setWind k { s.wind k with faultMark := false })) :=
    (policyStep_within _ _).after (setWind_within _ _ _).mono
  dsimp only
  split
  · exact h
  · exact (judgeClear_within _ _ _ _).after ((judgeRaise_within _ _ _ _).after ((setWind_within _ _ _).after h))

theorem degrade_within (k : Crane) (p : Policy) (s : State) : Within { winds := true } s (degrade k p s).2 := by
  unfold degrade
  dsimp only
  split
  · exact (setLevel_within _ _ _).after ((setWind_within _ _ _).after ((offer_within _ _).after (setWind_within _ _ _)))
  · exact (offer_within _ _).after (setWind_within _ _ _)

theorem takeFault_within (k : Crane) (p : Policy) (s : State) : Within { winds := true } s (takeFault k p s).2 := by
  unfold takeFault
  dsimp only
  split
  · exact (degrade_within _ _ _).after (setWind_within _ _ _)
  · exact setWind_within _ _ _

theorem judgeJump_within (k : Crane) (j x : Nat) (s : State) : Within Touch.sample s (judgeJump k j x s).2 := by
  unfold judgeJump
  dsimp only
  split
  · exact qualify_within _ _ _
  · exact (setWind_within _ _ _).mono

theorem takeReading_within (k : Crane) (p : Policy) (y : Nat) (s : State) :
    Within Touch.sample s (takeReading k p y s).2 := by
  unfold takeReading
  dsimp only
  split
  · exact (judgeJump_within _ _ _ _).after (setWind_within _ _ _).mono
  · split
    · exact (qualify_within _ _ _).after ((qualify_within _ _ _).after (setWind_within _ _ _).mono)
    · exact (judgeJump_within _ _ _ _).after (setWind_within _ _ _).mono

theorem windOnPose_within (k : Crane) (s : State) : Within Touch.sample s (windOnPose k s).2 := by
  unfold windOnPose
  split
  · exact Within.refl _ _
  split
  · unfold takeSample
    split
    · exact Within.refl _ _
    split
    · exact (takeFault_within _ _ _).mono
    · exact takeReading_within _ _ _ _
  · exact Within.refl _ _

theorem forceStow_within (k : Crane) (s : State) : Within { winds := true } s (forceStow k s).2 :=
  (setLevel_within _ _ _).after (setWind_within _ _ _)

theorem initialise_within (k : Crane) (running : Bool) (s : State) :
    Within { winds := true } s (initialise k running s).2 := (setWind_within _ _ _).after (setLevel_within _ _ _)

/-! ### Vane Control (R119 to R130) -/

theorem sweepZone_within (k : Crane) (s : State) (z : Zone) : Within { air := true } s (sweepZone k s z) := by
  unfold sweepZone
  dsimp only
  split
  · exact setZone_within _ _ _
  · exact ite_within (setZone_within _ _ _) ((markVacate_within _ _ _).after (setZone_within _ _ _))
  · exact Within.refl _ _

theorem enterPreparing_within (k : Crane) (prof : Profile) (s : State) :
    Within { air := true, vanes := true } s (enterPreparing k prof s) :=
  (checkVaning_within _ _).after ((foldl_within (sweepZone_within k) _ _).after ((withdrawWait_within _ _).after
    (setVaneRec_within _ _ _).mono))

theorem judgeEntry_within (k : Crane) (s : State) : Within { air := true, vanes := true } s (judgeEntry k s) := by
  unfold judgeEntry
  split
  · exact Within.refl _ _
  · exact ite_within (enterPreparing_within _ _ _) (Within.refl _ _)

theorem startVaning_within (k : Crane) (prof : Profile) (s : State) :
    Within { air := true, vanes := true, winds := true } s (startVaning k prof s).2 := by
  have h := forceStow_within k s
  unfold startVaning
  split
  rename_i he
  rw [he] at h
  exact (enterPreparing_within _ _ _).after h.mono

theorem returnZone_within (k : Crane) (f : List Occ) (s : State) (z : Zone) :
    Within { air := true, vanes := true } s (returnZone k f s z) := by
  unfold returnZone
  dsimp only
  split
  · exact Within.refl _ _
  · exact Within.refl _ _
  refine ite_within (Within.refl _ _) ?_
  split
  · exact release_within _ _
  · exact ite_within (setZone_within _ _ _).mono (ite_within
      ((judgeLimit_within _ _).after (setZone_within _ _ _).mono) ((offer_within _ _).after (setZone_within _ _ _).mono))

theorem returnSwept_within (k : Crane) (s : State) : Within { air := true, vanes := true } s (returnSwept k s) := by
  have h : Within { air := true, vanes := true } s (allZones.foldl (unpendZone k) s) :=
    (foldl_within (unpendZone_within k) _ _).mono
  unfold returnSwept
  exact (setVaneRec_within _ _ _).after ((foldl_within (returnZone_within k _) _ _).after h)

theorem judgeAbandon_within (k : Crane) (s : State) (l : WindLevel) :
    Within { air := true, vanes := true } s (judgeAbandon k s l) := by
  unfold judgeAbandon
  exact ite_within (returnSwept_within _ _) (Within.refl _ _)

/-- The frame of Vane Control on a pose. -/
abbrev Touch.vaned : Touch := { air := true, vanes := true, winds := true }

/-- A crane that is not in vane state NONE before the pose has no level forced on it (R128, R130). -/
theorem vaneOnPose_forces_none {k : Crane} {s : State} (h : (s.vane k).state ≠ .none) (levels : List WindLevel)
    (startUp : Bool) : (vaneOnPose k levels startUp s).1 = [] := by
  simp only [vaneOnPose]
  split
  · rfl
  · simp [h]

theorem vaneOnPose_within (k : Crane) (levels : List WindLevel) (startUp : Bool) (s : State) :
    Within Touch.vaned s (vaneOnPose k levels startUp s).2 := by
  have h : Within Touch.vaned s (levels.foldl (judgeAbandon k) s) :=
    (foldl_within (judgeAbandon_within k) _ _).mono
  unfold vaneOnPose
  dsimp only
  split
  · exact h
  · split
    · exact (startVaning_within _ _ _).after h
    · exact (judgeEntry_within _ _).after h

theorem blockPreparation_within (k : Crane) (s : State) : Within { vanes := true } s (blockPreparation k s) :=
  (trigger_within _ _ _ _).after ((offer_within _ _).after (setVane_within _ _ _))

/-! ### Site Tables (R10 to R20) -/

theorem setStaging_within (s : State) (k : Crane) (c : CraneStaging) : Within { site := true } s (s.setStaging k c) :=
  setSite_within _ _

theorem loadSegment_within (tgt : Target) (seg : Nat) (content : Segment) (s : State) :
    Within { site := true } s (loadSegment tgt seg content s).2 := by
  unfold loadSegment
  split
  · unfold loadForSite storeZoneSegment
    split
    · split
      · split
        · exact setSite_within _ _
        · exact Within.refl _ _
      · exact Within.refl _ _
    all_goals exact Within.refl _ _
  split
  · exact Within.refl _ _
  · unfold loadForCrane storeMapSegment
    split
    · split
      · exact Within.refl _ _
      split
      · exact Within.refl _ _
      · exact setStaging_within _ _ _
    · split
      · split
        · exact Within.refl _ _
        split
        · exact Within.refl _ _
        · exact setStaging_within _ _ _
      · exact Within.refl _ _
    · split
      · exact Within.refl _ _
      split
      · exact Within.refl _ _
      · exact setStaging_within _ _ _
    · split
      · exact Within.refl _ _
      · exact setStaging_within _ _ _
    all_goals exact Within.refl _ _

/-- The frame of a structural commit. -/
abbrev Touch.structural : Touch := { site := true, mgmt := true, air := true, vanes := true }

theorem reconcile_within (k : Crane) (s : State) : Within { air := true, vanes := true } s (reconcile k s) := by
  unfold reconcile
  have h (f : List Occ) : Within { air := true } s (allZones.foldl (reconcileZone k f) s) := by
    refine foldl_within (fun s z => ?_) _ _
    unfold reconcileZone
    split
    · exact ite_within (acquire_within _ _ _ _) (takeExitOnly_within _ _ _ _)
    · exact Within.refl _ _
  refine Within.after (a := { air := true, vanes := true }) (foldl_within (fun s z => ?_) _ _) (h _).mono
  unfold reconcileRelease
  exact ite_within (release_within _ _) (Within.refl _ _)

theorem tryApply_within (k : Crane) (c : StructuralCommit) (s : State) :
    Within { site := true, air := true, vanes := true } s (tryApply k c s).2 := by
  unfold tryApply
  split
  · dsimp only
    exact (reconcile_within _ _).after (setSite_within _ _).mono
  · exact Within.refl _ _

theorem setStructural_within (k : Crane) (c : Option StructuralCommit) (s : State) :
    Within { site := true } s (setStructural k c s) := setSite_within _ _

theorem setStructuralTag_within (k : Crane) (tag : Option Byte) (s : State) :
    Within { mgmt := true } s (setStructuralTag k tag s) := setMgmt_within _ _

theorem keepBlocked_within (k : Crane) (c : StructuralCommit) (zs : List Zone) (s : State) :
    Within { site := true } s (keepBlocked k c zs s) := by
  unfold keepBlocked
  exact ite_within (setStructural_within _ _ _) ((offer_within _ _).after (setStructural_within _ _ _))

theorem pendingCommitStep_within (k : Crane) (s : State) : Within Touch.structural s (pendingCommitStep k s) := by
  unfold pendingCommitStep
  split
  · exact Within.refl _ _
  · rename_i c _
    split
    · have h := tryApply_within k c (setStructural k none s)
      dsimp only
      split
      · rename_i he
        rw [he] at h
        exact (commitResult_within _ _ _ _).after ((setStructuralTag_within _ _ _).after
          (h.after (setStructural_within _ _ _).mono))
      · exact (keepBlocked_within _ _ _ _).mono
    · exact Within.refl _ _

theorem replaceStructural_within (k : Crane) (s : State) :
    Within { site := true, mgmt := true } s (replaceStructural k s) := by
  unfold replaceStructural
  split
  · exact Within.refl _ _
  · exact (commitResult_within _ _ _ _).after ((setStructuralTag_within _ _ _).after (setStructural_within _ _ _).mono)

theorem takeStructural_within (k : Crane) (tag : Byte) (c : StructuralCommit) (s : State) :
    Within Touch.structural s (takeStructural k tag c s).2 := by
  have h1 : Within Touch.structural s (replaceStructural k (emptySlots k c s)) :=
    (replaceStructural_within _ _).after (setStaging_within _ _ _).mono
  unfold takeStructural
  dsimp only
  split
  · exact (setSite_within _ _).after h1
  split
  · have h := tryApply_within k c (replaceStructural k (emptySlots k c s))
    split
    · rename_i he
      rw [he] at h
      exact h.after h1
    · exact (setStructuralTag_within _ _ _).after ((keepBlocked_within _ _ _ _).after h1)
  · exact (setStructuralTag_within _ _ _).after ((setStructural_within _ _ _).after h1)

theorem commitStructural_within (k : Crane) (tag : Byte) (p m c : Bool) (s : State) :
    Within Touch.structural s (commitStructural k tag p m c s).2 := by
  unfold commitStructural
  dsimp only
  split
  · exact Within.refl _ _
  unfold judgeStructural
  dsimp only
  split
  · exact Within.refl _ _
  split
  · exact Within.refl _ _
  split
  · exact Within.refl _ _
  · exact takeStructural_within _ _ _ _

theorem replacePolicy_within (k : Crane) (s : State) :
    Within { site := true, mgmt := true } s (replacePolicy k s) := by
  unfold replacePolicy
  split
  · exact Within.refl _ _
  · exact (commitResult_within _ _ _ _).after ((setMgmt_within _ _).after (setSite_within _ _).mono)

theorem commitPolicy_within (k : Crane) (tag : Byte) (s : State) :
    Within { site := true, mgmt := true } s (commitPolicy k tag s).2 := by
  unfold commitPolicy
  split
  · exact Within.refl _ _
  split
  · exact Within.refl _ _
  split
  · exact Within.refl _ _
  · have h1 : Within { site := true, mgmt := true } s
        (replacePolicy k (s.setStaging k { s.staging k with policy := none })) :=
      (replacePolicy_within _ _).after (setStaging_within _ _ _).mono
    dsimp only
    split
    · exact (setSite_within _ _).after h1
    · exact (setMgmt_within _ _).after ((setSite_within _ _).after h1)

/-- The frame of a zone table commit. -/
abbrev Touch.zoneTable : Touch := { site := true, air := true, vanes := true, access := true }

theorem applyZoneTable_within (t : ZoneTable) (s : State) : Within Touch.zoneTable s (applyZoneTable t s) := by
  unfold applyZoneTable
  refine (foldl_within (fun s z => judgeLimit_within z s) _ _).after ((reexamine_within _ _).after ?_)
  exact (foldl_within (alignPerm_within _) _ _).after (setSite_within _ _).mono

theorem commitZoneTable_within (s : State) : Within Touch.zoneTable s (commitZoneTable s).2 := by
  unfold commitZoneTable
  split
  · exact Within.refl _ _
  split
  · exact Within.refl _ _
  split
  · exact Within.refl _ _
  · dsimp only
    exact applyZoneTable_within _ _

/-- The frame of COMMIT. -/
abbrev Touch.commit : Touch := { site := true, mgmt := true, air := true, vanes := true, access := true }

theorem commit_within (tag : Byte) (tgt : Target) (set : Byte) (s : State) :
    Within Touch.commit s (commit tag tgt set s).2 := by
  unfold commit
  split
  · unfold commitForSite
    split
    · exact Within.refl _ _
    · exact (commitZoneTable_within _).mono
    all_goals exact Within.refl _ _
  split
  · exact Within.refl _ _
  · unfold commitForCrane
    split
    · exact Within.refl _ _
    · exact Within.refl _ _
    · exact (commitPolicy_within _ _ _).mono
    · exact (commitStructural_within _ _ _ _ _ _).mono

/-! ### Lane Interface (R22 to R42) -/

theorem startTstale_within (k : Crane) (s : State) : Within { lanes := true } s (startTstale k s) := setLane_within _ _ _

theorem startTlost_within (k : Crane) (s : State) : Within { lanes := true } s (startTlost k s) := setLane_within _ _ _

theorem startTcab_within (k : Crane) (s : State) : Within { lanes := true } s (startTcab k s) := setLane_within _ _ _

theorem seqStep_within (k : Crane) (seq : Nat) (s : State) :
    Within { lanes := true, counters := true } s (seqStep k seq s) := by
  unfold seqStep
  exact (setLane_within _ _ _).after (ite_within (Within.refl _ _) (count_within _ _ _ _).mono)

theorem recordPose_within (k : Crane) (i : PoseIn) (s : State) : Within { poses := true } s (recordPose k i s) :=
  setPose_within _ _ _

theorem becomeLive_within (k : Crane) (s : State) : Within { lanes := true, air := true } s (becomeLive k s) :=
  (restartTimer_within _ _).after ((startTstale_within _ _).after (setLaneState_within _ _ _).mono)

theorem markSettling_within (k : Crane) (s : State) : Within { air := true } s (markSettling k s) := setArb_within _ _ _

theorem advanceLane_within (k : Crane) (last : Option Nat) (seq : Nat) (s : State) :
    Within { lanes := true, air := true } s (advanceLane k last seq s).2 := by
  unfold advanceLane
  dsimp only
  split
  · split
    · exact (setLane_within _ _ _).mono
    · have h : Within { lanes := true, air := true } s (becomeLive k (s.setLane k { s.lane k with syncRun := 0 })) :=
        (becomeLive_within _ _).after (setLane_within _ _ _).mono
      exact ite_within ((markSettling_within _ _).after h) h
  · exact (startTstale_within _ _).mono
  · exact (becomeLive_within _ _).after (setLane_within _ _ _).mono
  · exact (setLaneState_within _ _ _).after (setLane_within _ _ _).mono

theorem bookingOnPose_within (k : Crane) (levels : List WindLevel) (judge : Bool) (s : State) :
    Within Touch.step s (bookingOnPose k levels judge s) := by
  unfold bookingOnPose
  have h : Within Touch.step s
      (levels.foldl (fun t l => if l = .stow then suspend k .wind t else judgeResume k t) s) :=
    foldl_within (fun s l => ite_within (suspend_within _ _ _) (judgeResume_within _ _).mono) _ _
  exact (noteLoad_within _ _).after (ite_within ((judgeResume_within _ _).after h) h)

/-- The frame of the blocks of the pose path. -/
abbrev Touch.posed : Touch :=
  { lanes := true, site := true, air := true, gov := true, winds := true, vanes := true, bookings := true, mgmt := true,
    counters := true }

theorem poseBlocks_within (k : Crane) (live : Bool) (s : State) : Within Touch.posed s (poseBlocks k live s) := by
  unfold poseBlocks
  refine (pendingCommitStep_within _ _).after ((bookingOnPose_within _ _ _ _).after ((vaneOnPose_within _ _ _ _).after
    ((windOnPose_within _ _).after (ite_within ?_ (Within.refl _ _)))))
  exact (chartJudge_within _ _).after ((overrunCheck_within _ _).after (judgePose_within _ _).mono)

theorem cabStep_within (k : Crane) (s : State) : Within { lanes := true } s (cabStep k s) :=
  (startTcab_within _ _).after (setCabState_within _ _ _)

theorem stepOnDemand_within (k : Crane) (d : DemandIn) (s : State) :
    Within { lanes := true, air := true, vanes := true, bookings := true } s (stepOnDemand k d s) := by
  unfold stepOnDemand
  exact ite_within (Within.refl _ _) ((setLane_within _ _ _).after (bookingStep_within _ _ _ _).mono)

theorem becomeStale_within (k : Crane) (s : State) :
    Within { lanes := true, air := true, gov := true, vanes := true, bookings := true } s (becomeStale k s) := by
  unfold becomeStale
  refine (suspend_within _ _ _).after ((clearMarks_within _ _).after ((leaveLive_within _ _).after ?_))
  have h : Within { lanes := true, air := true, gov := true, vanes := true, bookings := true } s
      (startTlost k (setLaneState k .stale (s.setLane k { s.lane k with tstale := none }))) :=
    (startTlost_within _ _).after ((setLaneState_within _ _ _).after (setLane_within _ _ _).mono)
  exact ite_within ((widen_within _ _).after ((freeze_within _ _).after h)) h

theorem becomeLost_within (k : Crane) (s : State) :
    Within { lanes := true, air := true, vanes := true, bookings := true } s (becomeLost k s) :=
  (trigger_within _ _ _ _).after ((haltState_within _ _).after ((setLaneState_within _ _ _).after
    (setLane_within _ _ _).mono))

theorem becomeSilent_within (k : Crane) (s : State) : Within { lanes := true } s (becomeSilent k s) :=
  (setCabState_within _ _ _).after (setLane_within _ _ _)

/-! ### Events of site time (R71, R75, R135) -/

/-- The frame of an expiry of site time. -/
abbrev Touch.due : Touch := { air := true, vanes := true, access := true, bookings := true }

theorem takeSiteDue_within (s : State) (d : SiteDue) : Within Touch.due s (takeSiteDue s d) := by
  unfold takeSiteDue
  split
  · exact (expireOverride_within _ _).mono
  · split
    · exact Within.refl _ _
    · exact (expireGrant_within _ _).mono
  · exact (openWindow_within _ _).mono
  · split
    · exact Within.refl _ _
    · exact (closeWindow_within _ _).mono

end Sys2Proof.Machine
end

