-- ==== Sys2Proof/Laws/FramesRequests.lean ====
section
/-! SUPPORT. Frames of whole frames taken and of whole requests: what an accepted pose, an accepted demand and each judged
request leave as they were. -/

namespace Sys2Proof.Machine

set_option Elab.async false

/-! ### Accepted frames (R27, R34, R38, R42) -/

/-- The frame of an accepted pose. -/
abbrev Touch.pose : Touch := { Touch.posed with poses := true, sent := true }

theorem forwardPose_within (k : Crane) (flags : Nat) (s : State) : Within { sent := true } s (forwardPose k flags s) := by
  unfold forwardPose
  split
  · exact Within.refl _ _
  · exact send_within _ _ _

theorem substituteStop_within (k : Crane) (s : State) :
    Within { lanes := true, sent := true, counters := true } s (substituteStop k s) := by
  unfold substituteStop
  exact ite_within ((count_within _ _ _ _).after (sendDemand_within _ _ _ _ _ _).mono) (Within.refl _ _)

theorem acceptPose_within (k : Crane) (f : List Byte) (s : State) : Within Touch.pose s (acceptPose k f s) := by
  have h : Within Touch.pose s (advanceLane k (s.lane k).lastSeq (poseIn f).seq
      (recordPose k (poseIn f) (seqStep k (poseIn f).seq s))).2 :=
    (advanceLane_within _ _ _ _).after ((recordPose_within _ _ _).after (seqStep_within _ _ _).mono)
  unfold acceptPose
  exact (substituteStop_within _ _).after ((forwardPose_within _ _ _).after ((poseBlocks_within _ _ _).after h))

/-- The frame of an accepted demand. -/
abbrev Touch.demand : Touch :=
  { lanes := true, air := true, gov := true, vanes := true, bookings := true, sent := true, counters := true }

theorem acceptDemand_within (k : Crane) (f : List Byte) (s : State) : Within Touch.demand s (acceptDemand k f s) := by
  have h : Within Touch.demand s (stepOnDemand k (demandIn f) (cabStep k s)) :=
    (stepOnDemand_within _ _ _).after (cabStep_within _ _).mono
  have h2 := (govern_within k (demandIn f).speed _).after h
  unfold acceptDemand
  exact (reloadTimer_within _ _ _).after ((sendDemand_within _ _ _ _ _ _).after h2)

/-! ### Responses (R161, R174) -/

theorem answer_within (q : Req) (tag : Byte) (rs : Reply × State) :
    Within { sent := true } rs.2 (answer q tag rs) := send_within _ _ _

theorem answerRead_within (q : Req) (tag : Byte) (rs : Reply × State) :
    Within { sent := true } rs.2 (answerRead q tag rs) := by
  unfold answerRead
  exact foldl_within (fun s _ => send_within _ _ s) _ _

/-! ### Requests that leave mode, clock and settings as they stand -/

theorem haltCrane_within (tgt : Target) (s : State) :
    Within { lanes := true, air := true, vanes := true, bookings := true } s (haltCrane tgt s).2 := by
  unfold haltCrane
  split
  · exact Within.refl _ _
  · dsimp only
    exact haltState_within _ _

theorem releaseCrane_within (tgt : Target) (s : State) :
    Within { lanes := true, air := true, bookings := true } s (releaseCrane tgt s).2 := by
  unfold releaseCrane
  split
  · exact Within.refl _ _
  split
  · exact Within.refl _ _
  split
  · exact Within.refl _ _
  split
  · exact Within.refl _ _
  split
  · exact Within.refl _ _
  · dsimp only
    exact runState_within _ _

theorem resumeCrane_within (tgt : Target) (s : State) : Within Touch.step s (resumeCrane tgt s).2 := by
  unfold resumeCrane
  split
  · exact Within.refl _ _
  split
  · exact Within.refl _ _
  split
  · exact Within.refl _ _
  split
  · exact Within.refl _ _
  · dsimp only
    exact (judgeResume_within _ _).after (returnSwept_within _ _).mono

theorem forceReleaseZone_within (tgt : Target) (s : State) :
    Within { air := true, vanes := true } s (forceReleaseZone tgt s).2 := by
  unfold forceReleaseZone
  split
  · exact Within.refl _ _
  split
  · exact Within.refl _ _
  split
  · exact Within.refl _ _
  split
  · exact Within.refl _ _
  · dsimp only
    exact release_within _ _

theorem setZonePermissions_within (tgt : Target) (mode : Nat) (p : PermSet) (e : Option Nat) (s : State) :
    Within Touch.permission s (setZonePermissions tgt mode p e s).2 := by
  unfold setZonePermissions
  split
  · exact Within.refl _ _
  split
  · exact Within.refl _ _
  split
  · exact Within.refl _ _
  split
  · split
    · exact Within.refl _ _
    · dsimp only
      exact (reexamine_within _ _).after (setPerm_within _ _ _).mono
  · dsimp only
    exact (reexamine_within _ _).after (revertPerm_within _ _).mono

theorem grantAccess_within (tgt : Target) (zone : Nat) (u : PermSet) (e : Option Nat) (s : State) :
    Within Touch.permission s (grantAccess tgt zone u e s).2 := by
  unfold grantAccess
  split
  · exact Within.refl _ _
  split
  · exact Within.refl _ _
  split
  · exact Within.refl _ _
  split
  · exact Within.refl _ _
  split
  · exact Within.refl _ _
  dsimp only
  split
  · dsimp only
    exact (reexamine_within _ _).after (setGrants_within _ _).mono
  · split
    · exact Within.refl _ _
    · dsimp only
      exact (reexamine_within _ _).after (setGrants_within _ _).mono

theorem revokeAccess_within (tgt : Target) (zone : Nat) (s : State) :
    Within Touch.permission s (revokeAccess tgt zone s).2 := by
  unfold revokeAccess
  split
  · split
    · dsimp only
      exact (reexamine_within _ _).after (setGrants_within _ _).mono
    · exact Within.refl _ _
  · exact Within.refl _ _

theorem bookLift_within (tgt : Target) (p : LiftPlan) (s : State) :
    Within { bookings := true } s (bookLift tgt p s).2 := by
  unfold bookLift
  split
  · exact Within.refl _ _
  split
  · exact Within.refl _ _
  · dsimp only
    exact (reportBooking_within _ _).after (setBookings_within _ _)

theorem cancelBooking_within (tgt : Target) (s : State) : Within Touch.step s (cancelBooking tgt s).2 := by
  unfold cancelBooking
  split
  · exact Within.refl _ _
  split
  · exact Within.refl _ _
  · dsimp only
    exact cancelLift_within _ _

theorem retireBooking_within (tgt : Target) (s : State) : Within { bookings := true } s (retireBooking tgt s).2 := by
  unfold retireBooking
  split
  · exact Within.refl _ _
  split
  · exact setBookings_within _ _
  · exact Within.refl _ _

theorem triggerCapture_within (tgt : Target) (s : State) : Within {} s (triggerCapture tgt s).2 := by
  unfold triggerCapture
  split
  · exact Within.refl _ _
  split
  · exact Within.refl _ _
  · exact trigger_within _ _ _ _

/-! ### CRANE RESTART (R166) -/

theorem restartLane_within (k : Crane) (s : State) : Within { lanes := true, poses := true } s (restartLane k s) :=
  (setPose_within _ _ _).after ((setLane_within _ _ _).after ((setControl_within _ _ _).after
    (setLaneState_within _ _ _).mono))

theorem clearCounters_within (k : Crane) (s : State) : Within { counters := true } s (clearCounters k s) where
  mode := rfl
  now := rfl
  clock := rfl
  line := rfl
  pending := rfl
  freeCount := rfl
  lanes _ := rfl
  poses _ := rfl
  site _ := rfl
  air _ := rfl
  access _ := rfl
  gov _ := rfl
  winds _ := rfl
  vanes _ := rfl
  bookings _ := rfl
  mgmt _ := rfl
  sent _ := rfl
  recorder := .plain rfl rfl rfl rfl (fun h => Bool.noConfusion h) fun h => h.setCounters k _ zeroRow_le

/-- The frame of CRANE RESTART. -/
abbrev Touch.restart : Touch :=
  { lanes := true, poses := true, air := true, gov := true, winds := true, vanes := true, bookings := true,
    counters := true }

theorem restart_within (k : Crane) (s : State) : Within Touch.restart s (restart k s) := by
  unfold restart
  have h : Within Touch.restart s
      (setVaneRec k .reset ((restartArbiter k (restartLane k s)).setGov k .reset)) :=
    (setVaneRec_within _ _ _).after ((setGov_within _ _ _).after ((restartArbiter_within _ _).after
      (restartLane_within _ _).mono))
  dsimp only
  exact (clearCounters_within _ _).after ((suspend_within _ _ _).after ((initialise_within _ _ _).after h))

theorem craneRestart_within (tgt : Target) (s : State) : Within Touch.restart s (craneRestart tgt s).2 := by
  unfold craneRestart
  split
  · exact Within.refl _ _
  · dsimp only
    exact restart_within _ _

/-! ### Counter Bank, Report Queue, settings, capture (R154, R156 to R160, R165, R170) -/

/-- The frame of a transfer. -/
abbrev Touch.transfer : Touch := { counters := true, recorder := true }

/-- A whole recorder written, sound if the old one was. -/
theorem recorder_within {w : Touch} (s : State) (r : Recorder) (hc : w.counters = true) (hr : w.recorder = true)
    (h : s.recorder.Sound → r.Sound) : Within w s (s.setRecorder r) :=
  setRecorder_within ⟨fun x => by simp [hr] at x, fun x => by simp [hr] at x, fun x => by simp [hr] at x,
    fun x => by simp [hr] at x, fun x => by simp [hc] at x, h⟩

theorem transferCrane_within (s : State) (k : Crane) : Within Touch.transfer s (transferCrane s k) := by
  refine recorder_within _ _ rfl rfl fun h => ?_
  have h' : Recorder.Sound { s.recorder with
      reports := s.recorder.reports.set k { values := s.recorder.counters[k], stamp := some s.stamp } } := by
    refine ⟨fun j i => ⟨(h.1 j i).1, ?_⟩, h.2⟩
    by_cases hjk : k = j
    · subst hjk
      simpa using (h.1 k i).1
    · have := (h.1 j i).2
      simpa [Vector.getElem_set, Fin.val_ne_of_ne hjk] using this
  exact h'.setCounters k _ zeroRow_le

theorem transferOne_within (k : Crane) (s : State) : Within Touch.transfer s (transferOne k s) :=
  (offer_within _ _).after (transferCrane_within _ _)

theorem transferAll_within (s : State) : Within Touch.transfer s (transferAll s) := by
  unfold transferAll
  exact (offer_within _ _).after (foldl_within transferCrane_within _ _)

theorem snapshotCounters_within (tgt : Target) (s : State) : Within Touch.transfer s (snapshotCounters tgt s).2 := by
  unfold snapshotCounters
  split
  · dsimp only
    exact transferAll_within _
  split
  · exact Within.refl _ _
  · dsimp only
    exact transferOne_within _ _

theorem setReporting_within (tgt : Target) (c : Settings) (s : State) :
    Within { recorder := true } s (setReporting tgt c s).2 := by
  unfold setReporting
  split
  · exact Within.refl _ _
  split
  · exact setRecorder_within ⟨nofun, nofun, nofun, nofun, fun _ => rfl, id⟩
  · exact Within.refl _ _

theorem readCapture_within (tgt : Target) (part : Nat) (s : State) : Within {} s (readCapture tgt part s).2 := by
  unfold readCapture
  split
  · exact Within.refl _ _
  split
  · exact Within.refl _ _
  · dsimp only
    refine ite_within ?_ (Within.refl _ _)
    unfold emptyCapture
    split
    · exact Within.refl _ _
    · exact setRecorder_within (.plain rfl rfl rfl rfl (fun _ => rfl) fun h =>
        ⟨h.1, h.2.1, h.2.2.1, h.2.2.2.1, h.2.2.2.2.1, Nat.zero_le _⟩)

theorem resetRecorder_within (s : State) : Within Touch.transfer s (resetRecorder s) := by
  refine recorder_within _ _ rfl rfl fun _ => ?_
  refine ⟨fun k i => ⟨?_, ?_⟩, Nat.zero_le 32, List.Pairwise.nil, nofun, Nat.zero_le 65535, Nat.zero_le 255⟩
  · simp [Counter.zero]
  · simp [Counter.zero, CounterReport.reset]

/-- Folding lost reports into a sound recorder with room in its queue leaves it sound (R156). -/
theorem noteOverflow_sound (s : State) (h : s.recorder.Sound) (hl : s.recorder.queue.length ≤ 31) :
    (noteOverflow s).recorder.Sound := by
  unfold noteOverflow
  dsimp only
  split
  · exact h
  split
  · refine ⟨h.1, by simpa using h.2.1, ?_, ?_, by simp, h.2.2.2.2.2⟩
    · show List.Pairwise _ (List.map _ _)
      rw [List.pairwise_map]
      refine h.2.2.1.imp fun {a b} hab => ?_
      unfold Report.apart at *
      split <;> split <;> exact hab
    · intro e he
      obtain ⟨a, ha, rfl⟩ := List.mem_map.1 he
      have := h.2.2.2.1 a ha
      split
      · dsimp
        omega
      · exact this
  · rename_i hn
    refine ⟨h.1, by simp; omega, ?_, ?_, by simp, h.2.2.2.2.2⟩
    · refine List.pairwise_cons.2 ⟨fun b hb hab => hn (List.any_eq_true.2 ⟨b, hb, ?_⟩), h.2.2.1⟩
      have := hab.1
      simp at this
      simp [← this]
    · intro e he
      rcases List.mem_cons.1 he with rfl | he
      · exact ⟨Nat.le_refl 1, show 1 ≤ 255 by decide⟩
      · exact h.2.2.2.1 e he

/-- Apart from the recorder, folding lost reports changes nothing. -/
theorem noteOverflow_eq (s : State) : noteOverflow s = s.setRecorder (noteOverflow s).recorder := by
  unfold noteOverflow
  dsimp only
  split <;> rfl

theorem noteOverflow_kept (s : State) : (noteOverflow s).recorder.settings = s.recorder.settings
    ∧ (noteOverflow s).recorder.paceTimer = s.recorder.paceTimer
    ∧ (noteOverflow s).recorder.transferTimer = s.recorder.transferTimer
    ∧ (noteOverflow s).recorder.reports = s.recorder.reports
    ∧ (noteOverflow s).recorder.counters = s.recorder.counters := by
  unfold noteOverflow
  dsimp only
  split <;> exact ⟨rfl, rfl, rfl, rfl, rfl⟩

theorem sendHead_within (s : State) : Within { sent := true } s (sendHead s) := by
  unfold sendHead
  split
  · exact Within.refl _ _
  · rename_i e es he
    refine (send_within _ _ _).after ?_
    have hk := noteOverflow_kept (s.setRecorder { s.recorder with queue := es })
    rw [noteOverflow_eq]
    refine setRecorder_within (r := (noteOverflow (s.setRecorder { s.recorder with queue := es })).recorder)
      (.plain hk.1 hk.2.1 hk.2.2.1 hk.2.2.2.1 (fun _ => hk.2.2.2.2) fun h => noteOverflow_sound _ ?_ ?_)
    · have hq := h.2
      rw [he] at hq
      exact ⟨h.1, (Nat.le_succ _).trans hq.1, (List.pairwise_cons.1 hq.2.1).2,
        fun x hx => hq.2.2.1 x (List.mem_cons_of_mem _ hx), hq.2.2.2⟩
    · have hq := h.2.1
      rw [he] at hq
      exact Nat.le_of_succ_le_succ hq

/-! ### COMMENCE: what it does after the mode has changed (R164) -/

/-- The frame of COMMENCE, the mode apart. -/
abbrev Touch.commence : Touch := { lanes := true, air := true, winds := true, vanes := true, bookings := true }

theorem startMonitor_within (s : State) (k : Crane) : Within { winds := true } s (startMonitor s k) := by
  unfold startMonitor
  exact ite_within (initialise_within _ _ _) (Within.refl _ _)

theorem runPresent_within (s : State) (k : Crane) : Within { lanes := true } s (runPresent s k) := by
  unfold runPresent
  exact ite_within (setControl_within _ _ _) (Within.refl _ _)

theorem startUpAtCommence_within (s : State) (k : Crane) : Within Touch.commence s (startUpAtCommence s k) := by
  unfold startUpAtCommence
  split
  · exact Within.refl _ _
  · rename_i prof _
    have h := startVaning_within k prof s
    refine ite_within ?_ (Within.refl _ _)
    dsimp only
    exact ite_within h.mono ((suspend_within k .wind _).after h.mono)

theorem startOperating_within (s : State) :
    Within Touch.commence { s with mode := .operating } (startOperating s) := by
  unfold startOperating
  refine Within.after (a := Touch.commence) (foldl_within (fun s k => (judgeResume_within k s).mono) _ _) ?_
  refine Within.after (foldl_within startUpAtCommence_within _ _) ?_
  refine Within.after (foldl_within runPresent_within _ _) ?_
  refine Within.after (foldl_within (fun s k => markSettling_within k s) _ _) ?_
  exact (foldl_within startMonitor_within _ _).mono

end Sys2Proof.Machine
end

