-- ==== Sys2Proof/Laws/Contents.lean ====
section
/-! SUPPORT. What the named operations write: the record each one changes, read back. -/

namespace Sys2Proof.Machine

set_option Elab.async false

/-! ### Reports leave every record alone -/

@[simp] theorem offer_lanes (o : Offer) (s : State) : (offer o s).lanes = s.lanes := (offer_within o s).lanes rfl
@[simp] theorem offer_vanes (o : Offer) (s : State) : (offer o s).vanes = s.vanes := (offer_within o s).vanes rfl
@[simp] theorem offer_winds (o : Offer) (s : State) : (offer o s).winds = s.winds := (offer_within o s).winds rfl
@[simp] theorem offer_air (o : Offer) (s : State) : (offer o s).air = s.air := (offer_within o s).air rfl
@[simp] theorem offer_bookings (o : Offer) (s : State) : (offer o s).bookings = s.bookings :=
  (offer_within o s).bookings rfl
@[simp] theorem offer_sent (o : Offer) (s : State) : (offer o s).sent = s.sent := (offer_within o s).sent rfl
@[simp] theorem trigger_lanes (t : TriggerKind) (k : Option Crane) (z : Option Zone) (s : State) :
    (trigger t k z s).lanes = s.lanes := (trigger_within t k z s).lanes rfl
@[simp] theorem trigger_air (t : TriggerKind) (k : Option Crane) (z : Option Zone) (s : State) :
    (trigger t k z s).air = s.air := (trigger_within t k z s).air rfl
@[simp] theorem count_air (k : Crane) (c : CounterId) (n : Nat) (s : State) : (count k c n s).air = s.air :=
  (count_within k c n s).air rfl

/-- Equal lane tables hold equal lanes. -/
theorem lane_congr {s t : State} (h : t.lanes = s.lanes) (k : Crane) : t.lane k = s.lane k := by
  unfold State.lane; rw [h]

theorem wind_congr {s t : State} (h : t.winds = s.winds) (k : Crane) : t.wind k = s.wind k := by
  unfold State.wind; rw [h]

theorem vane_congr {s t : State} (h : t.vanes = s.vanes) (k : Crane) : t.vane k = s.vane k := by
  unfold State.vane; rw [h]

theorem pose_congr {s t : State} (h : t.poses = s.poses) (k : Crane) : t.pose k = s.pose k := by
  unfold State.pose; rw [h]

theorem zone_congr {s t : State} (h : t.air = s.air) (z : Zone) : t.zone z = s.zone z := by
  unfold State.zone; rw [h]

theorem arb_congr {s t : State} (h : t.air = s.air) (k : Crane) : t.arb k = s.arb k := by
  unfold State.arb; rw [h]

/-! ### Reported changes of state (R29, R33, R35, R116, R119) -/

theorem setLaneState_lanes (k : Crane) (new : LaneState) (s : State) :
    (setLaneState k new s).lanes = (s.setLane k { s.lane k with state := new }).lanes := by
  unfold setLaneState
  dsimp only
  split <;> simp

theorem setCabState_lanes (k : Crane) (new : CabState) (s : State) :
    (setCabState k new s).lanes = (s.setLane k { s.lane k with cab := new }).lanes := by
  unfold setCabState
  dsimp only
  split <;> simp

theorem setControl_lanes (k : Crane) (new : ControlState) (s : State) :
    (setControl k new s).lanes = (s.setLane k { s.lane k with control := new }).lanes := by
  unfold setControl
  dsimp only
  split <;> simp

theorem setVaneRec_vanes (k : Crane) (v : VaneRec) (s : State) :
    (setVaneRec k v s).vanes = (s.setVane k v).vanes := by
  unfold setVaneRec
  dsimp only
  split <;> simp

theorem setLevel_winds (k : Crane) (new : WindLevel) (s : State) :
    (setLevel k new s).winds = (s.setWind k { s.wind k with level := new }).winds := by
  unfold setLevel
  dsimp only
  split <;> simp

/-- A halt changes the control state of its crane and no other lane (R35). -/
theorem haltState_lanes (k : Crane) (s : State) :
    (haltState k s).lanes = (s.setLane k { s.lane k with control := .halted }).lanes := by
  unfold haltState
  split
  · rename_i h
    have hl : { s.lane k with control := .halted } = s.lane k := by rw [← h]
    rw [hl, State.setLane_same]
  · rw [(suspend_within _ _ _).lanes rfl, setControl_lanes]

/-- A crane becoming RUN changes its own control state alone among the lanes (R35). -/
theorem runState_lanes (k : Crane) (s : State) :
    (runState k s).lanes = (s.setLane k { s.lane k with control := .run }).lanes := by
  unfold runState
  split
  · rename_i h
    have hl : { s.lane k with control := .run } = s.lane k := by rw [← h]
    rw [hl, State.setLane_same]
  · rw [(judgeResume_within _ _).lanes rfl, setControl_lanes]

/-- Sending a demand advances the outgoing sequence number and sets the last clamp flags of its lane (R41). -/
theorem sendDemand_lanes (k : Crane) (v : PerAxis Int) (c : PerAxis Bool) (r : ReasonFlags) (sub : Bool) (s : State) :
    (sendDemand k v c r sub s).lanes
      = (s.setLane k { s.lane k with outSeq := ((s.lane k).outSeq + 1) % 256, clamps := c }).lanes := rfl

theorem sendDemand_sent (k : Crane) (v : PerAxis Int) (c : PerAxis Bool) (r : ReasonFlags) (sub : Bool) (s : State) :
    (sendDemand k v c r sub s).sent = s.sent ++ [⟨.d k, sealFrame (outDemand k v c r sub
      ((s.vane k).state == .vaning) (s.lane k).outSeq)⟩] := rfl

end Sys2Proof.Machine
end

