-- ==== Sys2Proof/Laws/PerInstr.lean ====
section
/-! SUPPORT. The family `Carried`, one lemma for each command: the Management Interpreter judges a command exactly when it is
a request, under the request's own kind number and the tag it carries (R161, Figure 10-1). -/

namespace Sys2Proof.Laws.Carried

set_option Elab.async false

open Sys2Proof.Machine

/-- The kind and the tag a command is judged under, in every state, are those of the request it is; a command that is no
request is not judged. -/
def Statement (i : Instr) : Prop := ∀ s : State, (judgeRequest i s).map (fun j => (j.req, j.tag)) = requestHead i

theorem powerOn : Statement (.powerOn) := fun _ => rfl
theorem poseFrame (k : Crane) (bytes : List RxByte) : Statement (.poseFrame k bytes) := fun _ => rfl
theorem demandFrame (k : Crane) (bytes : List RxByte) : Statement (.demandFrame k bytes) := fun _ => rfl
theorem idleLineEnd (p : Port) : Statement (.idleLineEnd p) := fun _ => rfl
theorem managementFrame (bytes : List RxByte) : Statement (.managementFrame bytes) := fun _ => rfl
theorem tstaleExpiry (k : Crane) : Statement (.tstaleExpiry k) := fun _ => rfl
theorem tlostExpiry (k : Crane) : Statement (.tlostExpiry k) := fun _ => rfl
theorem tcabExpiry (k : Crane) : Statement (.tcabExpiry k) := fun _ => rfl
theorem holdLimitExpiry (z : Zone) : Statement (.holdLimitExpiry z) := fun _ => rfl
theorem vaneTimeout (k : Crane) : Statement (.vaneTimeout k) := fun _ => rfl
theorem paceTimerExpiry : Statement (.paceTimerExpiry) := fun _ => rfl
theorem transferIntervalExpiry : Statement (.transferIntervalExpiry) := fun _ => rfl
theorem siteSecond : Statement (.siteSecond) := fun _ => rfl
theorem overrideExpiry (z : Zone) : Statement (.overrideExpiry z) := fun _ => rfl
theorem grantExpiry (k : Crane) (z : Zone) : Statement (.grantExpiry k z) := fun _ => rfl
theorem windowOpenEvent (id : Nat) : Statement (.windowOpenEvent id) := fun _ => rfl
theorem windowCloseEvent (id : Nat) : Statement (.windowCloseEvent id) := fun _ => rfl
theorem loadSegment (tag : Byte) (tgt : Target) (seg : Nat) (content : Segment) : Statement (.loadSegment tag tgt seg content) := fun _ => rfl
theorem commit (tag : Byte) (tgt : Target) (set : Byte) : Statement (.commit tag tgt set) := fun _ => rfl
theorem commence (tag : Byte) (tgt : Target) : Statement (.commence tag tgt) := fun _ => rfl
theorem siteReset (tag : Byte) (tgt : Target) : Statement (.siteReset tag tgt) := fun _ => rfl
theorem craneRestart (tag : Byte) (tgt : Target) : Statement (.craneRestart tag tgt) := fun _ => rfl
theorem setSiteTime (tag : Byte) (tgt : Target) (t : Nat) : Statement (.setSiteTime tag tgt t) := fun _ => rfl
theorem haltCrane (tag : Byte) (tgt : Target) : Statement (.haltCrane tag tgt) := fun _ => rfl
theorem releaseCrane (tag : Byte) (tgt : Target) : Statement (.releaseCrane tag tgt) := fun _ => rfl
theorem resumeCrane (tag : Byte) (tgt : Target) : Statement (.resumeCrane tag tgt) := fun _ => rfl
theorem forceReleaseZone (tag : Byte) (tgt : Target) : Statement (.forceReleaseZone tag tgt) := fun _ => rfl
theorem setZonePermissions (tag : Byte) (tgt : Target) (mode : Nat) (setting : PermSet) (expiry : Option Nat) : Statement (.setZonePermissions tag tgt mode setting expiry) := fun _ => rfl
theorem grantAccess (tag : Byte) (tgt : Target) (zone : Nat) (uses : PermSet) (expiry : Option Nat) : Statement (.grantAccess tag tgt zone uses expiry) := fun _ => rfl
theorem revokeAccess (tag : Byte) (tgt : Target) (zone : Nat) : Statement (.revokeAccess tag tgt zone) := fun _ => rfl
theorem bookLift (tag : Byte) (tgt : Target) (plan : LiftPlan) : Statement (.bookLift tag tgt plan) := fun _ => rfl
theorem cancelBooking (tag : Byte) (tgt : Target) : Statement (.cancelBooking tag tgt) := fun _ => rfl
theorem retireBooking (tag : Byte) (tgt : Target) : Statement (.retireBooking tag tgt) := fun _ => rfl
theorem readCrane (tag : Byte) (tgt : Target) (part : Nat) : Statement (.readCrane tag tgt part) := fun _ => rfl
theorem readZone (tag : Byte) (tgt : Target) : Statement (.readZone tag tgt) := fun _ => rfl
theorem readBooking (tag : Byte) (tgt : Target) (part : Nat) : Statement (.readBooking tag tgt part) := fun _ => rfl
theorem readCounters (tag : Byte) (tgt : Target) (part : Nat) : Statement (.readCounters tag tgt part) := fun _ => rfl
theorem readCapture (tag : Byte) (tgt : Target) (part : Nat) : Statement (.readCapture tag tgt part) := fun _ => rfl
theorem snapshotCounters (tag : Byte) (tgt : Target) : Statement (.snapshotCounters tag tgt) := fun _ => rfl
theorem setReporting (tag : Byte) (tgt : Target) (settings : Settings) : Statement (.setReporting tag tgt settings) := fun _ => rfl
theorem triggerCapture (tag : Byte) (tgt : Target) : Statement (.triggerCapture tag tgt) := fun _ => rfl

end Sys2Proof.Laws.Carried
end

