-- ==== Sys2Proof/Laws/Steps.lean ====
section
/-! SUPPORT. What one step is made of, said once: `StepClosed P` lists the operations a step can perform, and `exec_keeps`
and `step_keeps` say that a property each of them keeps is kept by every command and every step. -/

namespace Sys2Proof.Machine

set_option Elab.async false

/-- A property that every operation a step performs keeps. -/
structure StepClosed (P : State → Prop) : Prop where
  /-- Time, bytes in progress, waiting commands and the counter of the free values. -/
  outer : ∀ (s : State) (now : Nat) (clock : Clock) (line : Line) (pending : List Instr) (free : Nat), P s →
    P { s with now := now, clock := clock, line := line, pending := pending, freeCount := free }
  /-- POWER_ON. -/
  powerOn : ∀ (pending : List Instr) (sent : List Sent) (free : Nat) (s : State), P s → s.sent = sent →
    P { State.reset with pending := pending, sent := sent, freeCount := free }
  pose : ∀ k f s, P s → P (acceptPose k f s)
  demand : ∀ k f s, P s → P (acceptDemand k f s)
  rejected : ∀ k s, P s → P (count k .frameErrors 1 s)
  assembly : ∀ a s, P s → P (setAssembly a s)
  judged : ∀ i s j, judgeRequest i s = some j → P s → P j.after
  answer : ∀ q tag rs, P rs.2 → P (answer q tag rs)
  answerRead : ∀ q tag rs, P rs.2 → P (answerRead q tag rs)
  unknown : ∀ kind tag s, P s → P (send .s (responseBytes kind tag (.no .range)) s)
  stale : ∀ k s, P s → (s.lane k).state = .live → P (becomeStale k s)
  lost : ∀ k s, P s → (s.lane k).state = .stale → P (becomeLost k s)
  silent : ∀ k s, P s → (s.lane k).cab = .active → P (becomeSilent k s)
  limit : ∀ z s, P s → P (markVacate z .holdLimit s)
  blocked : ∀ k s, P s → (s.vane k).state = .preparing → P (blockPreparation k s)
  paced : ∀ t s, P s → P (sendHead (s.setRecorder { s.recorder with paceTimer := t }))
  transfer : ∀ t s, P s → P (transferAll (s.setRecorder { s.recorder with transferTimer := t }))
  override : ∀ z s, P s → P (expireOverride z s)
  grant : ∀ g s, P s → P (expireGrant g s)
  opened : ∀ id b s, P s → findBooking s id = some b → b.state = .logged → P (openWindow id s)
  closed : ∀ id b s, P s → findBooking s id = some b → P (closeWindow b s)

variable {P : State → Prop}

/-- A fold of an operation that keeps a property keeps it. -/
theorem foldl_keeps {α : Type} {f : State → α → State} (h : ∀ s a, P s → P (f s a)) (l : List α) (s : State)
    (hs : P s) : P (l.foldl f s) := by
  induction l generalizing s with
  | nil => exact hs
  | cons a l ih => exact ih _ (h _ _ hs)

theorem waitUntil_keeps (h : StepClosed P) (s : State) (t : Nat) (hs : P s) : P (s.waitUntil t) :=
  h.outer s (max s.now t) s.clock s.line s.pending s.freeCount hs

theorem waitSite_keeps (h : StepClosed P) (s : State) (t : Nat) (hs : P s) : P (s.waitSite t) := by
  unfold State.waitSite
  split
  · exact hs
  · exact h.outer s _ _ s.line s.pending s.freeCount hs

theorem findBooking_waitSite (s : State) (t id : Nat) : findBooking (s.waitSite t) id = findBooking s id := by
  unfold State.waitSite
  split <;> rfl

theorem arriveD_keeps (h : StepClosed P) (k : Crane) (s : State) (b : RxByte) (hs : P s) : P (arriveD k s b) := by
  have hl (bs : List RxByte) : P (s.setLineD k bs) := h.outer s s.now s.clock _ s.pending s.freeCount hs
  unfold arriveD
  dsimp only
  split
  · exact hl _
  · unfold judgeOnD
    split
    · exact h.pose _ _ _ (hl _)
    · exact h.rejected _ _ (hl _)

theorem arriveC_keeps (h : StepClosed P) (k : Crane) (s : State) (b : RxByte) (hs : P s) : P (arriveC k s b) := by
  have hl (bs : List RxByte) : P (s.setLineC k bs) := h.outer s s.now s.clock _ s.pending s.freeCount hs
  unfold arriveC
  dsimp only
  split
  · exact hl _
  · unfold judgeOnC
    split
    · exact h.demand _ _ _ (hl _)
    · exact h.rejected _ _ (hl _)

theorem runRequest_keeps (h : StepClosed P) (i : Instr) (s : State) (hs : P s) : P (runRequest i s) := by
  unfold runRequest
  split
  · exact hs
  · rename_i j hj
    unfold respond
    split
    · exact h.answerRead _ _ _ (h.judged _ _ _ hj hs)
    · exact h.answer _ _ _ (h.judged _ _ _ hj hs)

theorem acceptRequestFrame_keeps (h : StepClosed P) (f : List Byte) (s : State) (hs : P s) :
    P (acceptRequestFrame f s) := by
  unfold acceptRequestFrame
  dsimp only
  split
  · exact h.assembly _ _ hs
  · split
    · unfold completeRequest
      split
      · exact h.unknown _ _ _ (h.assembly _ _ hs)
      · refine runRequest_keeps h _ _ ?_
        exact h.outer (setAssembly none s) s.now s.clock s.line s.pending _ (h.assembly none s hs)
    · exact h.assembly _ _ hs

theorem arriveS_keeps (h : StepClosed P) (s : State) (b : RxByte) (hs : P s) : P (arriveS s b) := by
  have hl (bs : List RxByte) : P { s with line := { s.line with s := bs } } :=
    h.outer s s.now s.clock _ s.pending s.freeCount hs
  unfold arriveS
  dsimp only
  split
  · exact hl _
  · unfold judgeOnS
    split
    · exact acceptRequestFrame_keeps h _ _ (hl _)
    · exact hl _

/-- A request that is a command of its own runs as the request a frame brings (R161). -/
theorem exec_request (i : Instr) (s : State) (j : Judged) (hj : judgeRequest i s = some j) :
    exec i s = .next (respond j) := by
  cases i <;> first | (cases hj; rfl) | (cases hj)

/-- A timed event keeps what its operation keeps. -/
theorem exec_keeps (h : StepClosed P) (i : Instr) (s t : State) (ht : exec i s = .next t) (hs : P s) : P t := by
  cases hj : judgeRequest i s with
  | some j =>
    have hr := runRequest_keeps h i s hs
    rw [exec_request i s j hj] at ht
    cases ht
    unfold runRequest at hr
    rw [hj] at hr
    exact hr
  | none =>
    cases i with
    | powerOn =>
      cases ht
      exact h.powerOn _ _ _ s hs rfl
    | poseFrame k bs =>
      cases ht
      exact foldl_keeps (arriveD_keeps h k) _ _ hs
    | demandFrame k bs =>
      cases ht
      exact foldl_keeps (arriveC_keeps h k) _ _ hs
    | idleLineEnd p =>
      cases ht
      cases p with
      | c k =>
        dsimp only
        split
        · exact hs
        · exact h.rejected _ _ (h.outer s s.now s.clock _ s.pending s.freeCount hs)
      | d k =>
        dsimp only
        split
        · exact hs
        · exact h.rejected _ _ (h.outer s s.now s.clock _ s.pending s.freeCount hs)
      | s => exact h.outer s s.now s.clock _ s.pending s.freeCount hs
    | managementFrame bs =>
      cases ht
      exact foldl_keeps (arriveS_keeps h) _ _ hs
    | tstaleExpiry k =>
      cases ht
      split
      · exact hs
      · split
        · rename_i t _ hl
          exact h.stale _ _ (waitUntil_keeps h s t hs) hl
        · exact hs
    | tlostExpiry k =>
      cases ht
      split
      · exact hs
      · split
        · rename_i t _ hl
          exact h.lost _ _ (waitUntil_keeps h s t hs) hl
        · exact hs
    | tcabExpiry k =>
      cases ht
      split
      · exact hs
      · split
        · rename_i t _ hl
          exact h.silent _ _ (waitUntil_keeps h s t hs) hl
        · exact hs
    | holdLimitExpiry z =>
      cases ht
      split
      · exact hs
      · exact h.limit _ _ (waitUntil_keeps h s _ hs)
    | vaneTimeout k =>
      cases ht
      split
      · exact hs
      · split
        · rename_i t _ hv
          exact h.blocked _ _ (waitUntil_keeps h s t hs) hv.1
        · exact hs
    | paceTimerExpiry =>
      cases ht
      exact h.paced _ _ (waitUntil_keeps h s _ hs)
    | transferIntervalExpiry =>
      cases ht
      split
      · exact hs
      · exact h.transfer _ _ (waitUntil_keeps h s _ hs)
    | siteSecond =>
      cases ht
      exact h.outer s _ _ s.line s.pending s.freeCount hs
    | overrideExpiry z =>
      cases ht
      split
      · exact hs
      · exact h.override _ _ (waitSite_keeps h s _ hs)
    | grantExpiry k z =>
      cases ht
      split
      · exact hs
      · split
        · exact hs
        · exact h.grant _ _ (waitSite_keeps h s _ hs)
    | windowOpenEvent id =>
      cases ht
      split
      · exact hs
      · rename_i b hb
        split
        · rename_i hl
          exact h.opened _ b _ (waitSite_keeps h s _ hs) (by rw [findBooking_waitSite]; exact hb) hl
        · exact hs
    | windowCloseEvent id =>
      cases ht
      split
      · exact hs
      · rename_i b hb
        split
        · exact h.closed id b _ (waitSite_keeps h s _ hs) (by rw [findBooking_waitSite]; exact hb)
        · exact hs
    | _ => cases hj

/-- Every step keeps a property that every operation keeps. -/
theorem step_keeps (h : StepClosed P) (s t : State) (ht : step s = .next t) (hs : P s) : P t := by
  unfold step at ht
  split at ht
  · exact exec_keeps h _ _ t ht (h.outer s s.now s.clock s.line _ s.freeCount hs)
  · split at ht
    · exact exec_keeps h _ _ t ht (h.outer s s.now s.clock s.line s.pending _ hs)
    · cases ht
      exact h.outer s _ s.clock s.line s.pending s.freeCount hs

end Sys2Proof.Machine
end

