-- ==== Sys2Proof/Laws/Zones.lean ====
section
/-! SUPPORT. The named operations on zone records keep every record sound (R43, R53, R59). -/

namespace Sys2Proof.Machine

set_option Elab.async false

/-- Every zone record is sound. -/
def ZonesSound (s : State) : Prop := ∀ z, (s.zone z).Sound

theorem ZonesSound.within {w : Touch} {s t : State} (hs : ZonesSound s) (h : Within w s t)
    (hw : w.air = false := by rfl) : ZonesSound t := fun z => by
  rw [zone_congr (h.air hw)]
  exact hs z

theorem ZonesSound.setArb {s : State} (hs : ZonesSound s) (k : Crane) (a : ArbRec) : ZonesSound (s.setArb k a) := hs

theorem ZonesSound.setZone {s : State} (hs : ZonesSound s) (z : Zone) (r : ZoneRec) (hr : r.Sound) :
    ZonesSound (s.setZone z r) := fun y => by
  rw [State.setZone_zone]
  split
  · exact hr
  · exact hs y

/-! ### Records -/

@[simp] theorem ZoneRec.withKind_queue (r : ZoneRec) (h : HoldKind) : (r.withKind h).queue = r.queue := by
  unfold ZoneRec.withKind; split <;> rfl
@[simp] theorem ZoneRec.withKind_vacate (r : ZoneRec) (h : HoldKind) : (r.withKind h).vacate = r.vacate := by
  unfold ZoneRec.withKind; split <;> rfl
@[simp] theorem ZoneRec.withKind_pending (r : ZoneRec) (h : HoldKind) :
    (r.withKind h).sweepPending = r.sweepPending := by
  unfold ZoneRec.withKind; split <;> rfl
@[simp] theorem ZoneRec.withKind_holder (r : ZoneRec) (h : HoldKind) : (r.withKind h).holder = r.holder := by
  unfold ZoneRec.withKind; split <;> simp_all [ZoneRec.holder]
@[simp] theorem ZoneRec.withKind_heldBy (r : ZoneRec) (h : HoldKind) : (r.withKind h).heldBy = r.heldBy := by
  unfold ZoneRec.withKind; split <;> simp_all [ZoneRec.heldBy]
theorem ZoneRec.withKind_free (r : ZoneRec) (h : HoldKind) : (r.withKind h).st = .free ↔ r.st = .free := by
  unfold ZoneRec.withKind; split <;> simp_all

theorem ZoneRec.Sound.withKind {r : ZoneRec} (hr : r.Sound) (h : HoldKind) : (r.withKind h).Sound := by
  obtain ⟨h1, h2, h3, h4, h5⟩ := hr
  exact ⟨fun hf => by simpa using h1 ((r.withKind_free h).1 hf), by simpa using h2, by simpa using h3,
    by simpa using h4, by simpa using h5⟩

/-- A record whose queue lost entries or had entries judged again. -/
theorem ZoneRec.Sound.filterQueue {r : ZoneRec} (hr : r.Sound) (p : Entry → Bool) :
    ZoneRec.Sound { r with queue := r.queue.filter p } := by
  obtain ⟨h1, h2, h3, h4, h5⟩ := hr
  refine ⟨fun hf => by simpa [(h1 hf).1] using (h1 hf).2, h2, ?_, fun e he => h4 e (List.mem_filter.1 he).1, h5⟩
  exact h3.sublist (List.filter_sublist.map _)

theorem ZoneRec.Sound.mapQueue {r : ZoneRec} (hr : r.Sound) (f : Entry → Entry) (hf : ∀ e, (f e).crane = e.crane) :
    ZoneRec.Sound { r with queue := r.queue.map f } := by
  obtain ⟨h1, h2, h3, h4, h5⟩ := hr
  refine ⟨fun h => by simpa [(h1 h).1] using (h1 h).2, h2, ?_, ?_, h5⟩
  · simpa [Function.comp_def, hf] using h3
  · intro e he
    obtain ⟨a, ha, rfl⟩ := List.mem_map.1 he
    rw [hf]
    exact h4 a ha

theorem ZoneRec.Sound.clearVacate {r : ZoneRec} (hr : r.Sound) : ZoneRec.Sound { r with vacate := false } := by
  obtain ⟨h1, h2, h3, h4, h5⟩ := hr
  exact ⟨h1, fun _ => rfl, h3, h4, h5⟩

/-- The record of an empty queue and no sweep-pending crane is sound in any state that bears no mark. -/
theorem ZoneRec.sound_of_empty {r : ZoneRec} (hq : r.queue = []) (hp : r.sweepPending = none) (hv : r.vacate = false) :
    r.Sound := by
  refine ⟨fun _ => ⟨hq, hp⟩, fun _ => hv, ?_, ?_, ?_⟩ <;> simp [hq, hp]

/-- A sound record without a holder is a FREE record with nothing in it. -/
theorem ZoneRec.Sound.of_free {r : ZoneRec} (hr : r.Sound) (h : r.holder = none) :
    r.queue = [] ∧ r.sweepPending = none ∧ r.vacate = false := by
  have hst : r.st = .free := by
    unfold ZoneRec.holder at h
    split at h
    · assumption
    · cases h
    · cases h
  have hb : r.heldBy = none := by simp [ZoneRec.heldBy, hst]
  exact ⟨(hr.1 hst).1, (hr.1 hst).2, hr.2.1 hb⟩

/-! ### Holds and marks -/

theorem ZonesSound.setKind {s : State} (hs : ZonesSound s) (z : Zone) (h : HoldKind) : ZonesSound (setKind z h s) :=
  hs.setZone _ _ ((hs z).withKind h)

/-- Acquiring a zone nobody holds. -/
theorem ZonesSound.acquire {s : State} (hs : ZonesSound s) (k : Crane) (z : Zone) (h : HoldKind)
    (hf : (s.zone z).queue = [] ∧ (s.zone z).sweepPending = none) : ZonesSound (acquire k z h s) :=
  hs.setZone _ _ (ZoneRec.sound_of_empty hf.1 hf.2 rfl)

theorem ZonesSound.markVacate {s : State} (hs : ZonesSound s) (z : Zone) (c : VacateCause) :
    ZonesSound (markVacate z c s) := by
  unfold Machine.markVacate
  split
  · exact hs
  · rename_i j hj
    split
    · exact hs
    · refine (hs.setZone z _ ?_).within (offer_within _ _)
      obtain ⟨h1, _, h3, h4, h5⟩ := hs z
      refine ⟨h1, fun h => ?_, h3, h4, h5⟩
      have : (s.zone z).heldBy = none := h
      rw [this] at hj
      cases hj

theorem ZonesSound.clearIdleMark {s : State} (hs : ZonesSound s) (z : Zone) : ZonesSound (clearIdleMark z s) := by
  unfold Machine.clearIdleMark
  dsimp only
  split
  · exact hs.setZone _ _ (hs z).clearVacate
  · exact hs

theorem ZonesSound.judgeLimit {s : State} (hs : ZonesSound s) (z : Zone) : ZonesSound (judgeLimit z s) := by
  unfold Machine.judgeLimit
  split
  · exact hs.markVacate _ _
  · exact hs

/-! ### Queues -/

theorem ZonesSound.refreshEntry {s : State} (hs : ZonesSound s) (c : Crane) (z : Zone) :
    ZonesSound (refreshEntry c z s) := by
  refine hs.setZone _ _ ((hs z).mapQueue _ fun e => ?_)
  split
  · rename_i h
    simpa [entryFor] using (beq_iff_eq.1 h).symm
  · rfl

theorem ZonesSound.removeEntry {s : State} (hs : ZonesSound s) (c : Crane) (z : Zone) :
    ZonesSound (removeEntry c z s) :=
  (hs.setZone _ _ ((hs z).filterQueue _)).clearIdleMark z

theorem ZonesSound.settleEntry {s : State} (hs : ZonesSound s) (c : Crane) (z : Zone) :
    ZonesSound (settleEntry c z s) := by
  unfold Machine.settleEntry
  split
  · exact hs.refreshEntry _ _
  · exact hs.removeEntry _ _

/-- A crane joins the queue of a zone that another crane holds. -/
theorem ZonesSound.joinQueue {s : State} (hs : ZonesSound s) (c : Crane) (z : Zone)
    (hh : ∃ j, (s.zone z).heldBy = some j ∧ j ≠ c) : ZonesSound (joinQueue c z s) := by
  obtain ⟨j, hj, hjc⟩ := hh
  have hst : (s.zone z).holder = some j ∧ (s.zone z).st ≠ .free := by
    unfold ZoneRec.heldBy at hj
    unfold ZoneRec.holder
    split at hj <;> simp_all
  unfold Machine.joinQueue
  split
  · exact hs.refreshEntry _ _
  · rename_i hn
    refine ZonesSound.judgeLimit (hs.setZone z _ ?_) z
    obtain ⟨h1, h2, h3, h4, h5⟩ := hs z
    refine ⟨fun hf => absurd hf hst.2, fun h => ?_, ?_, ?_, h5⟩
    · have : (s.zone z).heldBy = none := h
      rw [this] at hj
      cases hj
    · rw [List.map_append, List.nodup_append]
      refine ⟨h3, by simp, fun a ha b hb => ?_⟩
      simp [entryFor] at hb
      subst hb
      intro hab
      subst hab
      obtain ⟨e, he, hec⟩ := List.mem_map.1 ha
      exact hn (List.any_eq_true.2 ⟨e, he, by simpa using hec⟩)
    · intro e he
      rcases List.mem_append.1 he with he | he
      · exact h4 e he
      · rw [List.mem_singleton] at he
        subst he
        show (s.zone z).holder ≠ some c
        rw [hst.1]
        simpa using hjc

theorem ZonesSound.withdrawWait {s : State} (hs : ZonesSound s) (c : Crane) : ZonesSound (withdrawWait c s) := by
  unfold Machine.withdrawWait
  split
  · exact hs
  · exact (hs.setArb _ _).settleEntry _ _

theorem ZonesSound.withdrawReservation {s : State} (hs : ZonesSound s) (c : Crane) :
    ZonesSound (withdrawReservation c s) := by
  unfold Machine.withdrawReservation
  split
  · exact hs
  · exact (hs.setArb _ _).settleEntry _ _

theorem ZonesSound.rejudgeEntries {s : State} (hs : ZonesSound s) (c : Crane) : ZonesSound (rejudgeEntries c s) := by
  unfold Machine.rejudgeEntries
  dsimp only
  split <;> split <;>
    first
      | exact hs
      | exact hs.refreshEntry _ _
      | exact (hs.refreshEntry _ _).refreshEntry _ _

/-! ### Who holds a zone does not change in a queue -/

theorem markVacate_st (z y : Zone) (c : VacateCause) (s : State) : ((markVacate z c s).zone y).st = (s.zone y).st := by
  unfold markVacate
  split
  · rfl
  · split
    · rfl
    · rw [zone_congr (offer_air _ _), State.setZone_zone]
      split
      · subst_vars; rfl
      · rfl

theorem clearIdleMark_st (z y : Zone) (s : State) : ((clearIdleMark z s).zone y).st = (s.zone y).st := by
  unfold clearIdleMark
  dsimp only
  split
  · rw [State.setZone_zone]
    split
    · subst_vars; rfl
    · rfl
  · rfl

theorem judgeLimit_st (z y : Zone) (s : State) : ((judgeLimit z s).zone y).st = (s.zone y).st := by
  unfold judgeLimit
  split
  · exact markVacate_st _ _ _ _
  · rfl

theorem refreshEntry_st (c : Crane) (z y : Zone) (s : State) : ((refreshEntry c z s).zone y).st = (s.zone y).st := by
  unfold refreshEntry
  dsimp only
  rw [State.setZone_zone]
  split
  · subst_vars; rfl
  · rfl

theorem removeEntry_st (c : Crane) (z y : Zone) (s : State) : ((removeEntry c z s).zone y).st = (s.zone y).st := by
  unfold removeEntry
  dsimp only
  rw [clearIdleMark_st, State.setZone_zone]
  split
  · subst_vars; rfl
  · rfl

theorem settleEntry_st (c : Crane) (z y : Zone) (s : State) : ((settleEntry c z s).zone y).st = (s.zone y).st := by
  unfold settleEntry
  split
  · exact refreshEntry_st _ _ _ _
  · exact removeEntry_st _ _ _ _

theorem withdrawWait_st (c : Crane) (y : Zone) (s : State) : ((withdrawWait c s).zone y).st = (s.zone y).st := by
  unfold withdrawWait
  split
  · rfl
  · rw [settleEntry_st]; rfl

theorem withdrawReservation_st (c : Crane) (y : Zone) (s : State) :
    ((withdrawReservation c s).zone y).st = (s.zone y).st := by
  unfold withdrawReservation
  split
  · rfl
  · rw [settleEntry_st]; rfl

theorem joinQueue_st (c : Crane) (z y : Zone) (s : State) : ((joinQueue c z s).zone y).st = (s.zone y).st := by
  unfold joinQueue
  split
  · exact refreshEntry_st _ _ _ _
  · dsimp only
    rw [judgeLimit_st, State.setZone_zone]
    split
    · subst_vars; rfl
    · rfl

theorem dropEntry_st (c : Crane) (z y : Zone) (s : State) : ((dropEntry c z s).zone y).st = (s.zone y).st := by
  unfold dropEntry
  dsimp only
  rw [removeEntry_st]
  rfl

/-- The holder of a HELD zone is read from its state. -/
theorem heldBy_congr {r r' : ZoneRec} (h : r'.st = r.st) : r'.heldBy = r.heldBy := by
  unfold ZoneRec.heldBy; rw [h]

theorem holder_congr {r r' : ZoneRec} (h : r'.st = r.st) : r'.holder = r.holder := by
  unfold ZoneRec.holder; rw [h]

/-! ### Reservations and waits -/

/-- A waitable zone is held by another crane (R54). -/
theorem waitable_held {s : State} {k : Crane} {z : Zone} {u : Use} (h : waitable s k z u = true) :
    ∃ j, (s.zone z).heldBy = some j ∧ j ≠ k := by
  unfold waitable at h
  simp only [Bool.and_eq_true] at h
  have h' := h.1.1.2
  split at h'
  · cases h'
  · rename_i j hj
    exact ⟨j, hj, by simpa using h'⟩

/-- The zone of a reservation is waitable (R55). -/
theorem reservationZone_waitable {s : State} {k : Crane} {z : Zone} (h : reservationZone s k = some z) :
    waitable s k z .load = true := by
  unfold reservationZone at h
  split at h
  · cases h
  · split at h
    · cases h; assumption
    · cases h

theorem ZonesSound.placeReservation {s : State} (hs : ZonesSound s) (k : Crane) : ZonesSound (placeReservation k s) := by
  unfold Machine.placeReservation
  split
  · exact hs.withdrawReservation _
  · rename_i z hz
    obtain ⟨j, hj, hjk⟩ := waitable_held (reservationZone_waitable hz)
    dsimp only
    split
    · exact (hs.setArb _ _).joinQueue _ _ ⟨j, hj, hjk⟩
    · refine ((hs.withdrawReservation k).setArb _ _).joinQueue _ _ ⟨j, ?_, hjk⟩
      rw [State.setArb_zone, heldBy_congr (withdrawReservation_st k z s)]
      exact hj

/-! ### Release and grant (R51, R52) -/

/-- What a release leaves while it looks for the next holder: every other zone sound, and the zone itself without holder,
mark and sweep-pending crane, its queue made of cranes among `es`. -/
def Releasing (z : Zone) (es : List Entry) (s : State) : Prop :=
  (∀ y, y ≠ z → (s.zone y).Sound) ∧ (s.zone z).st = .free ∧ (s.zone z).vacate = false
    ∧ (s.zone z).sweepPending = none ∧ ((s.zone z).queue.map (·.crane)).Nodup
    ∧ ∀ e ∈ (s.zone z).queue, ∃ e' ∈ es, e'.crane = e.crane

/-- The record of a zone after an entry of its queue was dropped. -/
theorem dropEntry_zone (c : Crane) (z : Zone) (s : State) (hv : (s.zone z).vacate = false) :
    (dropEntry c z s).zone z = { s.zone z with queue := (s.zone z).queue.filter fun e => !(e.crane == c) } := by
  unfold dropEntry removeEntry clearIdleMark
  simp only [State.setZone_zone_self, State.setArb_zone]
  split
  · simp [hv]
  · simp

/-- Judging a zone's idle mark leaves the records of the others. -/
theorem clearIdleMark_other (z y : Zone) (s : State) (h : y ≠ z) :
    (clearIdleMark z s).zone y = s.zone y := by
  unfold clearIdleMark
  dsimp only
  split
  · rw [State.setZone_zone_ne _ _ _ _ h]
  · rfl

/-- Taking an entry out of one zone leaves the records of the others. -/
theorem removeEntry_other (c : Crane) (z y : Zone) (s : State) (h : y ≠ z) :
    (removeEntry c z s).zone y = s.zone y := by
  unfold removeEntry
  dsimp only
  rw [clearIdleMark_other _ _ _ h, State.setZone_zone_ne _ _ _ _ h]

/-- Dropping an entry of one zone leaves the records of the others. -/
theorem dropEntry_other (c : Crane) (z y : Zone) (s : State) (h : y ≠ z) :
    (dropEntry c z s).zone y = s.zone y := by
  unfold dropEntry
  dsimp only
  rw [removeEntry_other _ _ _ _ h, State.setArb_zone]

theorem Releasing.drop {z : Zone} {e : Entry} {es : List Entry} {s : State} (h : Releasing z (e :: es) s) :
    Releasing z es (dropEntry e.crane z s) := by
  obtain ⟨h1, h2, h3, h4, h5, h6⟩ := h
  refine ⟨fun y hy => by rw [dropEntry_other _ _ _ _ hy]; exact h1 y hy, ?_, ?_, ?_, ?_, ?_⟩
  all_goals rw [dropEntry_zone _ _ _ h3]
  · exact h2
  · exact h3
  · exact h4
  · exact h5.sublist (List.filter_sublist.map _)
  · intro x hx
    obtain ⟨hx, hne⟩ := List.mem_filter.1 hx
    obtain ⟨e', he', hee⟩ := h6 x hx
    rcases List.mem_cons.1 he' with rfl | he'
    · simp [hee] at hne
    · exact ⟨e', he', hee⟩

theorem ZonesSound.grant {z : Zone} {e : Entry} {es : List Entry} {s : State} (h : Releasing z (e :: es) s) :
    ZonesSound (grant e.crane z s) := by
  obtain ⟨h1, -, h3, h4, h5, -⟩ := h
  have hz : ∀ kind, ZonesSound (Machine.acquire e.crane z kind (dropEntry e.crane z s)) := by
    intro kind y
    unfold Machine.acquire
    rw [State.setZone_zone]
    split
    · rw [dropEntry_zone _ _ _ h3]
      refine ⟨fun hf => by simp at hf, fun hb => by simp [ZoneRec.heldBy] at hb, ?_, ?_, ?_⟩
      · exact h5.sublist (List.filter_sublist.map _)
      · intro x hx
        have := (List.mem_filter.1 hx).2
        simp only [ZoneRec.holder]
        intro hc
        simp only [Option.some.injEq] at hc
        simp [hc] at this
      · simp [h4]
    · rename_i hy
      rw [dropEntry_other _ _ _ _ hy]
      exact h1 y hy
  unfold Machine.grant
  dsimp only
  refine ZonesSound.judgeLimit ?_ z
  split
  · exact (hz _).placeReservation _
  · exact hz _

theorem ZonesSound.offerGrant {z : Zone} {es : List Entry} {s : State} (h : Releasing z es s) :
    ZonesSound (offerGrant z es s) := by
  induction es generalizing s with
  | nil =>
    obtain ⟨h1, h2, h3, h4, -, h6⟩ := h
    intro y
    by_cases hy : y = z
    · subst hy
      refine ZoneRec.sound_of_empty ?_ h4 h3
      rw [List.eq_nil_iff_forall_not_mem]
      intro e he
      obtain ⟨_, he', _⟩ := h6 e he
      cases he'
    · exact h1 y hy
  | cons e es ih =>
    unfold Machine.offerGrant
    split
    · exact ZonesSound.grant h
    · refine ih ?_
      obtain ⟨g1, g2, g3, g4, g5, g6⟩ := h.drop
      have ha := offer_air { kind := .waitDropped, crane := some e.crane, zone := some z } (dropEntry e.crane z s)
      refine ⟨fun y hy => ?_, ?_, ?_, ?_, ?_, ?_⟩
      · rw [zone_congr ha]; exact g1 y hy
      all_goals rw [zone_congr ha]; assumption

/-- Releasing a zone keeps every record sound (R51). -/
theorem ZonesSound.release {s : State} (hs : ZonesSound s) (z : Zone) : ZonesSound (release z s) := by
  obtain ⟨q1, q2, q3, q4, q5⟩ := hs z
  have h1 : ∀ y, y ≠ z → ((s.setZone z { s.zone z with st := .free, vacate := false }).zone y).Sound := fun y hy => by
    rw [State.setZone_zone_ne _ _ _ _ hy]; exact hs y
  unfold Machine.release
  dsimp only
  split
  · rename_i c hc
    refine ZonesSound.within (s := _) ?_ (checkVaning_within _ _)
    intro y
    rw [State.setZone_zone]
    split
    · rw [dropEntry_zone _ _ _ (by simp)]
      refine ⟨fun hf => by simp at hf, fun _ => by simp, ?_, ?_, by simp⟩
      · simpa using q3.sublist (List.filter_sublist.map _)
      · intro x hx
        have := (List.mem_filter.1 hx).2
        simp only [ZoneRec.holder]
        intro hcx
        simp only [Option.some.injEq] at hcx
        simp [hcx] at this
    · rename_i hy
      rw [dropEntry_other _ _ _ _ hy]
      exact h1 y hy
  · rename_i hc
    refine ZonesSound.offerGrant ⟨h1, ?_, ?_, ?_, ?_, ?_⟩
    all_goals rw [State.setZone_zone_self]
    · exact hc
    · exact q3
    · intro e he
      refine ⟨e, ?_, rfl⟩
      have he' : e ∈ (s.zone z).queue := he
      unfold grantOrder
      by_cases hcl : e.cls = .routine
      · exact List.mem_append.2 (Or.inr (List.mem_filter.2 ⟨he', by simp [hcl]⟩))
      · exact List.mem_append.2 (Or.inl (List.mem_filter.2 ⟨he', by simp [hcl]⟩))

end Sys2Proof.Machine
end

