-- ==== Sys2Proof/WellFormed.lean ====
section
/-! DEFINITION. Which commands can come in from outside at all: every raw number fits the width spec/11 (R173) gives its
field, every list has the greatest number of entries its field carries, and a frame command carries at most the 32 bytes
of one frame. Ranges narrower than the width are the business of the request's own rule. The meanings are total: they do
not rest on these checks. -/

namespace Sys2Proof

/-- Fits one byte. -/
def fits1 (n : Nat) : Bool := n < 256

/-- Fits two bytes. -/
def fits2 (n : Nat) : Bool := n < 65536

/-- Fits four bytes: a site time. -/
def fits4 (n : Nat) : Bool := n < 4294967296

/-- An optional four-byte field. -/
def fitsOpt4 : Option Nat → Bool
  | none => true
  | some n => fits4 n

/-- An optional two-byte field. -/
def fitsOpt2 : Option Nat → Bool
  | none => true
  | some n => fits2 n

def RawClaim.wf (c : RawClaim) : Bool := fits1 c.zone && fits1 c.cls && fits2 c.rlo && fits2 c.rhi

/-- A sector carries four entries, whatever its count (R4, R173). -/
def RawSector.wf (c : RawSector) : Bool := fits1 c.count && c.claims.length == 4 && c.claims.all RawClaim.wf

/-- A chart carries sixteen entries, whatever its count (R5, R173). -/
def RawChart.wf (c : RawChart) : Bool :=
  fits1 c.count && c.entries.length == 16 && c.entries.all fun e => fits2 e.bound && fits2 e.rating

def ZoneStatic.wf (z : ZoneStatic) : Bool := fits2 z.clearHeight && fits2 z.holdLimit

def Policy.wf (p : Policy) : Bool :=
  [p.ng, p.meanShift, p.gustWeight, p.faultRun, p.derateAlert, p.derateHold].all fits1
    && [p.jumpLimit, p.onAlert, p.offAlert, p.onHold, p.offHold, p.onStow, p.offStow, p.declareDwell,
        p.clearDwell].all fits2

def AxisDyn.wf (a : AxisDyn) : Bool := [a.vcap, a.decel, a.reaction, a.clearance].all fits2

def ProfileSeg.wf (p : ProfileSeg) : Bool :=
  p.dyn.slew.wf && p.dyn.trolley.wf && p.dyn.hoist.wf
    && [p.rmin, p.rmax, p.stowRadius, p.topHeight, p.emptyHook, p.vaneTimeout].all fits2
    && [p.activity.slew, p.activity.trolley, p.activity.hoist].all fits1
    && fitsOpt2 p.tstale && fitsOpt2 p.tlost && fitsOpt2 p.tcab

/-- Sixteen sectors or sixteen zones to a segment (R10). -/
def Segment.wf : Segment → Bool
  | .profile p => p.wf
  | .reachMap ss => ss.length == 16 && ss.all RawSector.wf
  | .loadChart c => c.wf
  | .policy p => p.wf
  | .zoneTable zs => zs.length == 16 && zs.all ZoneStatic.wf
  | .unknown n => fits1 n && !(1 ≤ n && n ≤ 5)

def LiftPlan.wf (p : LiftPlan) : Bool :=
  [p.crane, p.pickSector, p.setSector, p.routeCount].all fits1
    && [p.load, p.pickRadius, p.setRadius].all fits2 && fits4 p.opens && fits4 p.closes
    && p.route.length == 6 && p.route.all fits1

def Settings.wf (c : Settings) : Bool :=
  fits1 c.pace && fits2 c.interval
    && c.declareOnly.all fun k => [ReportKind.laneState, .cabState, .controlState, .windLevel, .vaneState].contains k

/-- A frame command brings between 1 and 32 bytes. -/
def frameWf (bs : List RxByte) : Bool := 1 ≤ bs.length && bs.length ≤ 32

/-- The check on a command. -/
def Instr.wf : Instr → Bool
  | .powerOn => true
  | .poseFrame _ bs => frameWf bs
  | .demandFrame _ bs => frameWf bs
  | .idleLineEnd _ => true
  | .managementFrame bs => frameWf bs
  | .tstaleExpiry _ => true
  | .tlostExpiry _ => true
  | .tcabExpiry _ => true
  | .holdLimitExpiry _ => true
  | .vaneTimeout _ => true
  | .paceTimerExpiry => true
  | .transferIntervalExpiry => true
  | .siteSecond => true
  | .overrideExpiry _ => true
  | .grantExpiry _ _ => true
  | .windowOpenEvent id => 1 ≤ id && fits2 id
  | .windowCloseEvent id => 1 ≤ id && fits2 id
  | .loadSegment _ _ seg c => fits1 seg && c.wf
  | .commit _ _ _ => true
  | .commence _ _ => true
  | .siteReset _ _ => true
  | .craneRestart _ _ => true
  | .setSiteTime _ _ t => fits4 t
  | .haltCrane _ _ => true
  | .releaseCrane _ _ => true
  | .resumeCrane _ _ => true
  | .forceReleaseZone _ _ => true
  | .setZonePermissions _ _ mode _ e => fits1 mode && fitsOpt4 e
  | .grantAccess _ _ zone _ e => fits1 zone && fitsOpt4 e
  | .revokeAccess _ _ zone => fits1 zone
  | .bookLift _ _ plan => plan.wf
  | .cancelBooking _ _ => true
  | .retireBooking _ _ => true
  | .readCrane _ _ part => fits1 part
  | .readZone _ _ => true
  | .readBooking _ _ part => fits1 part
  | .readCounters _ _ part => fits1 part
  | .readCapture _ _ part => fits1 part
  | .snapshotCounters _ _ => true
  | .setReporting _ _ st => st.wf
  | .triggerCapture _ _ => true

end Sys2Proof
end

