-- ==== Sys2Proof/Tests/Slice0.lean ====
section
/-! SUPPORT. Tests: the smoke test of WellFormed, the worked figures of the spec, one step of each kind of command on small
states, and for every statement with hypotheses a concrete state and operands that meet them. Expected results come from
the figure or rule named in each comment. -/

namespace Sys2Proof.Tests

open Sys2Proof.Machine

set_option Elab.async false

/-! ### WellFormed: an ill-formed term for each check -/

def siteTgt : Target := ⟨0, 0⟩
def crane1 : Target := ⟨1, 1⟩

def axisBad : AxisDyn := ⟨65536, 1, 0, 0⟩
def axisOk : AxisDyn := ⟨100, 5, 300, 10⟩

def segOk : ProfileSeg :=
  { present := true, dyn := .all axisOk, rmin := 50, rmax := 600, stowRadius := 100, topHeight := 900, emptyHook := 200,
    activity := .all 1, tstale := none, tlost := none, tcab := none, vaneTimeout := 60 }

def polA : Policy :=
  { ng := 3, meanShift := 4, gustWeight := 12, jumpLimit := 0, faultRun := 3, onAlert := 100, offAlert := 80,
    onHold := 150, offHold := 120, onStow := 200, offStow := 170, declareDwell := 2, clearDwell := 3, derateAlert := 10,
    derateHold := 20 }

def planA : LiftPlan :=
  { crane := 1, opens := 10, closes := 20, load := 100, pickSector := 0, pickRadius := 100, setSector := 0,
    setRadius := 100, routeCount := 1, route := [2, 0, 0, 0, 0, 0] }

def noClaim : RawClaim := ⟨0, 0, 0, 0⟩
def sectorOk : RawSector := ⟨0, List.replicate 4 noClaim⟩

theorem test_wf_frame_empty : Instr.wf (.poseFrame 0 []) = false := by decide
theorem test_wf_frame_long : Instr.wf (.demandFrame 0 (List.replicate 33 ⟨0, true⟩)) = false := by decide
theorem test_wf_request_frame : Instr.wf (.managementFrame []) = false := by decide
theorem test_wf_window_id : Instr.wf (.windowOpenEvent 0) = false ∧ Instr.wf (.windowCloseEvent 65536) = false := by
  decide
theorem test_wf_segment_number : Instr.wf (.loadSegment 0 crane1 256 (.profile segOk)) = false := by decide
theorem test_wf_profile_axis :
    Segment.wf (.profile { segOk with dyn := ⟨axisBad, axisOk, axisOk⟩ }) = false
      ∧ Segment.wf (.profile { segOk with dyn := ⟨axisOk, axisBad, axisOk⟩ }) = false
      ∧ Segment.wf (.profile { segOk with dyn := ⟨axisOk, axisOk, axisBad⟩ }) = false := by decide
theorem test_wf_profile_field : Segment.wf (.profile { segOk with rmax := 65536 }) = false := by decide
theorem test_wf_profile_activity : Segment.wf (.profile { segOk with activity := .all 256 }) = false := by decide
theorem test_wf_profile_timer :
    Segment.wf (.profile { segOk with tstale := some 65536 }) = false
      ∧ Segment.wf (.profile { segOk with tlost := some 65536 }) = false
      ∧ Segment.wf (.profile { segOk with tcab := some 65536 }) = false := by decide
theorem test_wf_map_length : Segment.wf (.reachMap [sectorOk]) = false := by decide
theorem test_wf_sector :
    RawSector.wf ⟨256, List.replicate 4 noClaim⟩ = false ∧ RawSector.wf ⟨0, [noClaim]⟩ = false
      ∧ RawSector.wf ⟨1, List.replicate 4 ⟨256, 1, 0, 0⟩⟩ = false := by decide
theorem test_wf_claim :
    RawClaim.wf ⟨1, 256, 0, 0⟩ = false ∧ RawClaim.wf ⟨1, 2, 65536, 0⟩ = false
      ∧ RawClaim.wf ⟨1, 2, 0, 65536⟩ = false := by decide
theorem test_wf_chart :
    RawChart.wf ⟨256, List.replicate 16 ⟨0, 0⟩⟩ = false ∧ RawChart.wf ⟨1, [⟨0, 0⟩]⟩ = false
      ∧ RawChart.wf ⟨1, List.replicate 16 ⟨65536, 0⟩⟩ = false ∧ RawChart.wf ⟨1, List.replicate 16 ⟨0, 65536⟩⟩ = false := by
  decide
theorem test_wf_policy :
    Policy.wf { polA with ng := 256 } = false ∧ Policy.wf { polA with clearDwell := 65536 } = false := by decide
theorem test_wf_zone_table :
    Segment.wf (.zoneTable []) = false ∧ ZoneStatic.wf ⟨true, 65536, noPerms, 0⟩ = false
      ∧ ZoneStatic.wf ⟨true, 0, noPerms, 65536⟩ = false := by decide
theorem test_wf_unknown_kind : Segment.wf (.unknown 5) = false ∧ Segment.wf (.unknown 256) = false := by decide
theorem test_wf_site_time : Instr.wf (.setSiteTime 0 siteTgt 4294967296) = false := by decide
theorem test_wf_permissions :
    Instr.wf (.setZonePermissions 0 ⟨2, 1⟩ 256 noPerms none) = false
      ∧ Instr.wf (.setZonePermissions 0 ⟨2, 1⟩ 1 noPerms (some 4294967296)) = false := by decide
theorem test_wf_grant :
    Instr.wf (.grantAccess 0 crane1 256 noPerms none) = false
      ∧ Instr.wf (.grantAccess 0 crane1 1 noPerms (some 4294967296)) = false
      ∧ Instr.wf (.revokeAccess 0 crane1 256) = false := by decide
theorem test_wf_plan :
    LiftPlan.wf { planA with crane := 256 } = false ∧ LiftPlan.wf { planA with load := 65536 } = false
      ∧ LiftPlan.wf { planA with opens := 4294967296 } = false ∧ LiftPlan.wf { planA with closes := 4294967296 } = false
      ∧ LiftPlan.wf { planA with route := [1] } = false
      ∧ LiftPlan.wf { planA with route := [256, 0, 0, 0, 0, 0] } = false := by decide
theorem test_wf_read_part :
    Instr.wf (.readCrane 0 crane1 256) = false ∧ Instr.wf (.readBooking 0 ⟨3, 1⟩ 256) = false
      ∧ Instr.wf (.readCounters 0 crane1 256) = false ∧ Instr.wf (.readCapture 0 siteTgt 256) = false := by decide
theorem test_wf_settings :
    Settings.wf { settingsAtPowerOn with pace := 256 } = false
      ∧ Settings.wf { settingsAtPowerOn with interval := 65536 } = false
      ∧ Settings.wf { settingsAtPowerOn with declareOnly := [.overlap] } = false := by decide
theorem test_wf_accepts :
    Instr.wf (.loadSegment 0 crane1 0 (.profile segOk)) = true ∧ Instr.wf (.bookLift 0 ⟨3, 1⟩ planA) = true
      ∧ Instr.wf (.setReporting 0 siteTgt settingsAtPowerOn) = true := by decide

/-- The table gives no command any bits, so no word spells one. -/
theorem test_no_word_spells_a_command : decodeTableWord 32 0xFFFF = none ∧ decodeTableWord 0 0 = none := by decide

/-! ### Worked figures -/

/-- Figure 5-1 and the largest stopping distance (R81, R82). -/
theorem test_figure_5_1 :
    [8, 9, 10, 11, 12].map (stopDist ⟨100, 5, 300, 0⟩) = [10, 12, 13, 17, 19]
      ∧ permittedSpeed ⟨100, 5, 300, 0⟩ 12 = 9 ∧ permittedSpeed ⟨100, 5, 300, 0⟩ 16 = 10
      ∧ stopDist ⟨4000, 1, 2000, 0⟩ 4000 = 8008000 := by decide +kernel

/-- Figure 6-2: the mean with k = 4 (R111). -/
theorem test_figure_6_2 :
    nextMean 4 (some 120) 200 = 125 ∧ nextMean 4 (some 125) 100 = 124 ∧ nextMean 4 (some 120) 118 = 120
      ∧ nextMean 4 (some 120) 104 = 119 ∧ nextMean 4 (some 119) 104 = 119 ∧ nextMean 4 none 7 = 7 := by decide

/-- Figure 2-3: a flag changes on the second pose that shows the new value, and an isolated value leaves no trace (R26). -/
theorem test_figure_2_3 :
    ((Debounced.clear.judge true).judge true) = ⟨true, false⟩ ∧ ((Debounced.clear.judge true).judge false) = ⟨false, false⟩ := by
  decide

/-- A repeated number forms a gap of 255, one a number early a gap of 254, the next number none (R25). -/
theorem test_sequence_gap :
    seqGap (some 7) 7 = 255 ∧ seqGap (some 7) 6 = 254 ∧ seqGap (some 255) 0 = 0 ∧ seqGap none 9 = 0 := by decide

/-- Figure 9-3: a gap of 174 on 65,480 leaves 65,535 with the marker set (R152). -/
theorem test_figure_9_3 :
    Counter.add ⟨65480, false⟩ 174 = ⟨65535, true⟩ ∧ Counter.add ⟨65480, false⟩ 55 = ⟨65535, false⟩
      ∧ Counter.add ⟨65535, false⟩ 1 = ⟨65535, true⟩ := by decide

/-- R173's field widths and R172's saturation: two's complement, most significant byte first. -/
theorem test_fields :
    be2 (twos 16 (-2)) = [0xFF#8, 0xFE#8] ∧ signedAt [0xFF#8, 0xFE#8] 0 2 = -2 ∧ saturateSpeed 100 (-128) = -100
      ∧ saturateWind 900 = 800 ∧ saturateWind 65535 = 65535 := by decide

/-- The generator of R24 is that of the code whose value over the digits 1 to 9 is 29B1H, started at all ones, unreflected,
with no final inversion. -/
theorem test_check_value :
    checkValue ([0x31, 0x32, 0x33, 0x34, 0x35, 0x36, 0x37, 0x38, 0x39].map (BitVec.ofNat 8)) = 0x29B1#16 := by
  decide +kernel

/-! ### A small site: crane 1 present over zones 1 and 2, every zone present -/

def profA : Profile :=
  { present := true, dyn := .all axisOk, rmin := 50, rmax := 600, stowRadius := 100, topHeight := 900, emptyHook := 200,
    activity := .all .primary, tstale := 250, tlost := 2000, tcab := 200, vaneTimeout := 60 }

def mapA : ReachMap := [[⟨0, .jib⟩, ⟨1, .hook 50 600⟩]]

def chartA : Chart := [⟨300, 5000⟩, ⟨600, 2000⟩]

def tableA : ZoneTable := Vector.replicate 64 ⟨true, 500, ⟨true, true⟩, 60⟩

def siteA : Site :=
  { Site.reset with
    profiles := Site.reset.profiles.set 0 (some profA), maps := Site.reset.maps.set 0 (some mapA),
    charts := Site.reset.charts.set 0 (some chartA), policies := Site.reset.policies.set 0 (some polA),
    zoneTable := some tableA }

/-- CONFIG with a complete image. -/
def configA : State :=
  { State.reset with
    site := siteA, access := { perms := Vector.replicate 64 ⟨⟨true, true⟩, false, none⟩, grants := [] } }

def poseA : Pose :=
  { theta := 0, r := 100, h := 100, speed := .all 0, load := 300, wind := 50, newWind := false, seq := 7,
    hookParked := .clear, brakeReleased := .clear, driveFault := .clear, arrival := ⟨0, 0⟩ }

def laneA : Lane :=
  { Lane.reset with state := .live, lastSeq := some 7, tstale := some 250, cab := .active, tcab := some 200,
                    control := .run }

/-- OPERATING, crane 1 RUN and LIVE over its two zones, both held in MOTION. -/
def runA : State :=
  { configA with
    mode := .operating, lanes := State.reset.lanes.set 0 laneA, poses := State.reset.poses.set 0 (some poseA),
    winds := State.reset.winds.set 0 (.initial true),
    air := { (Air.reset 0) with
      zones := ((Air.reset 0).zones.set 0 { ZoneRec.reset with st := .held 0 .motion 0 }).set 1
        { ZoneRec.reset with st := .held 0 .motion 0 } } }

/-- A booking of crane 1 over zone 2, open from 10 to 20. -/
def liftA (st : BookingState) (leg : Nat) : Booking :=
  { id := 5, crane := 0, opens := 10, closes := 20, load := 300, pickSector := 0, pickRadius := 100, setSector := 0,
    setRadius := 100, route := [1], state := st, leg := leg, overtime := false, reason := none, suspensions := 0,
    outcome := .absent }

/-- `runA` with that booking. -/
def liftS (st : BookingState) (leg : Nat) : State := { runA with bookings := [liftA st leg] }

/-- Bytes as a port receives them, with every stop bit. -/
def rx (bs : List Byte) : List RxByte := bs.map fun b => ⟨b, true⟩

/-- A pose frame of crane 1 with a sequence number, standing as `poseA` does (Figure 11-2). -/
def poseFrameA (seq : Nat) : List RxByte :=
  rx (sealFrame ([byte 1, byte 1, byte seq, byte 0] ++ be2 0 ++ be2 100 ++ be2 100 ++ be2 0 ++ [byte 0] ++ be2 0
    ++ be2 300 ++ be2 50 ++ List.replicate 11 (byte 0)))

/-- A demand frame of crane 1 that asks a slew speed and carries a booking step (Figure 11-4). -/
def demandFrameA (slew step number id : Nat) : List RxByte :=
  rx (sealFrame ([byte 2, byte 1] ++ be2 slew ++ [byte 0] ++ be2 0 ++ [byte step, byte number] ++ be2 id
    ++ List.replicate 19 (byte 0)))

/-- One frame of a request train (Figure 11-6): kind, tag 9, index with its last mark, target crane 1. -/
def requestFrameA (kind mark : Nat) (payload : List Byte) : List RxByte :=
  rx (sealFrame ([byte 3, byte kind, byte 9, byte mark, byte 1] ++ be2 1 ++ padTo 23 payload))

/-- `runA` with a pose that shows an overload and a slew speed whose stopping distance passes the scan's extent. -/
def heavyA : State :=
  { runA with poses := runA.poses.set 0 (some { poseA with load := 6000, speed := ⟨4000, 0, 0⟩ }) }

/-- `heavyA` with the present flag of crane 1 clear. -/
def heavyAbsentA : State :=
  { heavyA with site := { siteA with profiles := siteA.profiles.set 0 (some { profA with present := false }) } }

/-- Chart and profile of a crane take part only while it is present (R1, R96, R100). -/
theorem test_absent_crane_overruns_nothing :
    chartResult heavyA 0 = .overload ∧ (overrunOf 0 heavyA).isSome = true
      ∧ chartResult heavyAbsentA 0 = .clear ∧ overrunOf 0 heavyAbsentA = none := by decide +kernel

/-- `runA` with the slew brake released and a vane state. -/
def releasedA (v : VaneState) : State :=
  (runA.setPose 0 (some { poseA with brakeReleased := ⟨true, false⟩ })).setVane 0 { VaneRec.reset with state := v }

/-- On a settling pose a released crane in NONE is taken into vaning, while one that was PREPARING across its outage, and
whose preparation the level HOLD of that pose abandons, gets no start-up decision (R126, R128, R130). -/
theorem test_return_to_live_decides_nothing :
    ((vaneOnPose 0 [] true (releasedA .none)).1, ((vaneOnPose 0 [] true (releasedA .none)).2.vane 0).state)
        = ([.stow], .vaning)
      ∧ ((vaneOnPose 0 [.hold] true (releasedA .preparing)).1,
          ((vaneOnPose 0 [.hold] true (releasedA .preparing)).2.vane 0).state) = ([], .none) := by decide +kernel

/-- The state a command leads to. -/
def after (c : Instr) (s : State) : Option State :=
  match exec c s with
  | .next t => some t
  | .fault _ => none
  | .refused _ => none

/-- What a command leads to, seen through one view of the state. -/
def seen {α : Type} (c : Instr) (s : State) (view : State → α) : Option α := (after c s).map view

/-! ### What meets the hypotheses of each statement -/

theorem witness_idle_tick : State.reset.pending = [] ∧ dueEvents State.reset = [] := by decide +kernel
theorem witness_idle_due : (dueEvents { State.reset with now := 20 }) = [.paceTimerExpiry] := by decide +kernel

theorem witness_request_done :
    (judgeRequest (.haltCrane 3 crane1) runA).map (·.reply) = some .ok := by decide +kernel
theorem witness_request_read :
    (judgeRequest (.readZone 3 ⟨2, 64⟩) runA).map (·.req) = some .readZone := by decide +kernel
theorem witness_request_refused :
    (judgeRequest (.haltCrane 3 ⟨1, 9⟩) runA).map (·.reply) = some (.no .badTarget) := by decide +kernel

def trainA : List (List RxByte) := [requestFrameA 7 0 [], requestFrameA 7 129 []]

theorem witness_request_train :
    RequestTrain 7 9 crane1 trainA ∧ State.reset.line.s = []
      ∧ (parseRequest (7 : Byte).toNat 9 crane1 ⟨trainPayload trainA, 0⟩).map (·.1) = some (.haltCrane 9 crane1) := by
  decide +kernel
theorem witness_request_single : RequestTrain 24 9 crane1 [requestFrameA 24 128 []] := by decide +kernel
theorem witness_request_unknown :
    RequestTrain 25 9 crane1 [requestFrameA 25 128 []]
      ∧ (parseRequest (25 : Byte).toNat 9 crane1 ⟨trainPayload [requestFrameA 25 128 []], 0⟩).isNone = true := by
  decide +kernel
/-- Frames that do not complete a request: the first of a train, one that continues an assembly, and one that continues none
(R173). -/
theorem witness_request_assembly :
    checkOk (requestFrameA 7 0 []) = true ∧ unsignedAt (plainBytes (requestFrameA 7 0 [])) 0 1 = 3
      ∧ seen (.managementFrame (requestFrameA 7 0 [])) runA (fun t => t.mgmt.assembly.map (·.parts.length)) = some (some 1)
      ∧ seen (.managementFrame (requestFrameA 7 0 [] ++ requestFrameA 7 1 [])) runA
          (fun t => (t.mgmt.assembly.map (·.parts.length), t.sent.length)) = some (some 2, 0)
      ∧ seen (.managementFrame (requestFrameA 7 0 [] ++ requestFrameA 7 130 [])) runA
          (fun t => (t.mgmt.assembly.isSome, t.sent.length)) = some (false, 0) := by decide +kernel
/-- A whole train is acted on and answered as its request is: one response frame, and crane 1 HALTED. -/
theorem test_request_train_completes :
    seen (.managementFrame trainA.flatten) runA (fun t => (t.sent.length, (t.lane 0).control, t.mgmt.assembly.isSome))
      = some (1, .halted, false) := by decide +kernel
theorem witness_request_unaccepted :
    (poseFrameA 1).length = 32
      ∧ ¬(checkOk (poseFrameA 1) = true ∧ unsignedAt (plainBytes (poseFrameA 1)) 0 1 = 3) := by
  decide +kernel

theorem witness_invariants : step State.reset = .next State.reset.tick := by
  have h : nextDue State.reset = none := by decide +kernel
  show (match nextDue State.reset with | some i => exec i State.reset.chosen | none => .next State.reset.tick) = _
  rw [h]

/-- A state with a lift in flight that meets every invariant but that of CONFIG. -/
def flyingA : State :=
  { liftS .active 1 with
    air := { runA.air with zones := runA.air.zones.set 1 { ZoneRec.reset with st := .held 0 .booking 0 } } }

theorem witness_invariants_flying :
    LiftsSound flyingA ∧ BookingHoldsOnLeg flyingA ∧ flyingA.recorder.Sound ∧ flyingA.access.Sound := by
  unfold LiftsSound ActiveSound fitToFly BookingHoldsOnLeg
  refine ⟨by decide +kernel, fun z k taken h => ?_, by decide +kernel, by decide +kernel⟩
  have key : ∀ z : Zone, ((flyingA.zone z).kind = some .booking → z = 1) := by decide +kernel
  have hz : z = 1 := key z (by rw [ZoneRec.kind, h])
  subst hz
  have hk : (flyingA.zone 1).heldBy = some 0 := by decide +kernel
  rw [ZoneRec.heldBy, h] at hk
  cases hk
  decide +kernel

theorem witness_records_flying :
    (∀ z, (flyingA.zone z).Sound) ∧ (∀ k, (flyingA.lane k).Sound) ∧ (flyingA.pose 0 = some poseA ∧ poseA.Sound)
      ∧ (∀ k, k ≠ 0 → flyingA.pose k = none) ∧ ∀ k, (flyingA.wind k).Sound := by decide +kernel

theorem witness_count : (State.reset.counter 0 .seqGaps).value ≤ 65535 := by decide +kernel

/-- A report entry of a kind and crane. -/
def entryA (kind : ReportKind) (k : Option Crane) : Report :=
  { kind := kind, crane := k, zone := none, booking := none, value := 1, count := 255, first := ⟨0, 0⟩, last := ⟨0, 0⟩ }

/-- 32 entries of different kinds or cranes. -/
def fullQueue : List Report :=
  (allCranes.map fun k => entryA .laneState (some k)) ++ (allCranes.map fun k => entryA .cabState (some k))
    ++ (allCranes.map fun k => entryA .controlState (some k)) ++ allCranes.map fun k => entryA .overlap (some k)

def queueS (q : List Report) (lost : Nat) : State :=
  { State.reset with recorder := { Recorder.reset with queue := q, overflow := lost } }

theorem witness_offer_met :
    passes (queueS fullQueue 0).recorder.settings { kind := .laneState, crane := some 7 } = true
      ∧ (queueS fullQueue 0).recorder.queue.Pairwise Report.apart
      ∧ passes { settingsAtPowerOn with enabled := [] } { kind := .laneState } = false := by decide +kernel
theorem witness_offer_coalesces :
    (queueS fullQueue 0).recorder.queue
      = fullQueue.take 7 ++ entryA .laneState (some 7) :: fullQueue.drop 8 := by decide +kernel
theorem witness_offer_full :
    (queueS fullQueue 0).recorder.queue.length = 32 ∧ (queueS (fullQueue.take 31) 0).recorder.queue.length = 31
      ∧ ∀ e ∈ fullQueue, ¬(e.kind = .breach ∧ e.crane = some 0) := by decide +kernel
theorem witness_overflow_new :
    (queueS fullQueue 1).recorder.queue = entryA .laneState (some 0) :: fullQueue.drop 1
      ∧ (queueS fullQueue 1).recorder.overflow ≠ 0 ∧ ∀ q ∈ fullQueue.drop 1, q.kind ≠ .queueOverflow := by
  decide +kernel
theorem witness_overflow_joins :
    (queueS [entryA .breach none, entryA .queueOverflow none, entryA .breach (some 1)] 65535).recorder.queue
        = entryA .breach none :: ([] ++ entryA .queueOverflow none :: [entryA .breach (some 1)])
      ∧ ∀ x ∈ ([] : List Report) ++ [entryA .breach (some 1)], x.kind ≠ .queueOverflow := by decide +kernel
theorem witness_pace_empty : State.reset.recorder.queue = [] ∧ (queueS fullQueue 0).recorder.overflow = 0 := by
  decide +kernel

def timedA : State := { runA with recorder := { Recorder.reset with transferTimer := some 60000 } }
theorem witness_transfer_timer : timedA.recorder.transferTimer = some 60000 := by decide +kernel
theorem witness_snapshot :
    targetIsAll ⟨4, 0⟩ = true ∧ targetCrane crane1 = some 0 ∧ targetCrane ⟨1, 8⟩ = some 7
      ∧ ∀ j : Crane, decide (j = 7) = true ↔ j = 7 := by decide +kernel
theorem witness_set_reporting :
    targetIsSite siteTgt = true ∧ (1 ≤ settingsAtPowerOn.pace ∧ settingsAtPowerOn.pace ≤ 200)
      ∧ settingsAtPowerOn.interval ≤ 3600 ∧ ¬(1 ≤ 201 ∧ 201 ≤ 200 ∧ 0 ≤ 3600) := by decide +kernel

/-- A capture of the site. -/
def captureA : Capture :=
  { stamp := ⟨1, 2⟩, trigger := .overlap, crane := some 0, zone := some 63, snapshots := Vector.ofFn (snapshotOf runA) }
def capturedA : State := { runA with recorder := { Recorder.reset with capture := some captureA, missed := 255 } }

theorem witness_trigger_capture :
    TriggerKind.supervisor ∈ runA.recorder.settings.triggers ∧ runA.recorder.capture = none
      ∧ TriggerKind.supervisor ∈ capturedA.recorder.settings.triggers ∧ capturedA.recorder.capture = some captureA := by
  decide +kernel
theorem witness_reads :
    targetCrane ⟨1, 8⟩ = some 7 ∧ targetZone ⟨2, 64⟩ = some 63 ∧ targetBooking ⟨3, 5⟩ = some 5
      ∧ findBooking (liftS .active 1) 5 = some (liftA .active 1) := by decide +kernel
theorem witness_read_capture : targetIsSite siteTgt = true ∧ (0 : Nat) ≤ 8 ∧ (8 : Nat) ≤ 8 := by decide

/-- A pose frame of crane 1 with one bit of its load turned. -/
def spoiled (f : List RxByte) : List RxByte := f.set 16 ⟨0, true⟩

theorem witness_rejected :
    (spoiled (poseFrameA 8)).length = 32 ∧ runA.line.d[(0 : Crane)] = [] ∧ runA.line.c[(0 : Crane)] = []
      ∧ checkOk (spoiled (poseFrameA 8)) = false
      ∧ ¬(unsignedAt (plainBytes (poseFrameA 8)) 1 1 = (1 : Crane).val + 1)
      ∧ ¬(unsignedAt (plainBytes (poseFrameA 8)) 0 1 = 2) := by decide +kernel
theorem witness_short_frame :
    ((poseFrameA 8).take 31).length < 32 ∧ (poseFrameA 8).take 31 ≠ [] := by decide +kernel

theorem witness_pose_accepted :
    runA.line.d[(0 : Crane)] = [] ∧ (poseFrameA 8).length = 32 ∧ laneAccepts poseType 0 (poseFrameA 8) = true
      ∧ laneAccepts poseType 0 (spoiled (poseFrameA 8)) = false := by decide +kernel

/-- `runA` with crane 1's lane in a given state, its cab SILENT. -/
def laneIn (st : LaneState) (run : Nat) : Lane :=
  { laneA with
    state := st, syncRun := run, tstale := if st = .live then some 250 else none,
    tlost := if st = .stale then some 2000 else none, cab := .silent, tcab := none }
def laneS (st : LaneState) (run : Nat) : State := { runA with lanes := State.reset.lanes.set 0 (laneIn st run) }

theorem witness_lane_states :
    ((laneS .syncing 3).lane 0).state = .syncing ∧ ((laneS .syncing 3).lane 0).syncRun = 3
      ∧ ((laneS .syncing 3).lane 0).lastSeq = some ((8 + 255) % 256)
      ∧ ((laneS .live 0).lane 0).state = .live ∧ ((laneS .stale 0).lane 0).state = .stale
      ∧ ((laneS .lost 0).lane 0).state = .lost ∧ ((laneS .live 0).lane 0).cab = .silent := by decide +kernel

theorem witness_gap :
    (runA.lane 0).lastSeq = some 7 ∧ unsignedAt (plainBytes (poseFrameA 7)) 2 1 = 7
      ∧ unsignedAt (plainBytes (poseFrameA 6)) 2 1 = 6 ∧ (State.reset.lane 0).lastSeq = none := by decide +kernel

theorem witness_demand_accepted :
    runA.line.c[(0 : Crane)] = [] ∧ (demandFrameA 40 1 3 5).length = 32
      ∧ laneAccepts demandType 0 (demandFrameA 40 1 3 5) = true ∧ (reasonFlags runA 0).any = false
      ∧ (reasonFlags State.reset 0).any = true ∧ (demandIn (plainBytes (demandFrameA 40 1 3 5))).step = 1
      ∧ (demandIn (plainBytes (demandFrameA 40 0 0 0))).step = 0 := by decide +kernel
theorem witness_governed :
    (reasonFlags runA 0).any = false ∧ runA.pose 0 = some poseA ∧ runA.profile 0 = some profA := by decide +kernel

theorem witness_tstale :
    (flyingA.lane 0).state = .live ∧ (flyingA.lane 0).tstale = some 250 ∧ flyingA.mode = .operating
      ∧ activeBooking flyingA 0 = some (liftA .active 1) := by decide +kernel
theorem witness_tlost :
    ((laneS .stale 0).lane 0).tlost = some 2000 ∧ activeBooking (laneS .stale 0) 0 = none
      ∧ (laneS .stale 0).recorder.capture = none
      ∧ TriggerKind.laneLost ∈ (laneS .stale 0).recorder.settings.triggers := by decide +kernel
theorem witness_tcab : (runA.lane 0).cab = .active ∧ (runA.lane 0).tcab = some 200 := by decide +kernel

/-- `runA` with crane 1 HALTED and a SUSPENDED lift. -/
def haltedA : State := { liftS .suspended 1 with lanes := State.reset.lanes.set 0 { laneA with control := .halted } }

theorem witness_halt :
    targetCrane crane1 = some 0 ∧ (haltedA.lane 0).control = .halted ∧ (runA.lane 0).control = .run
      ∧ activeBooking runA 0 = none ∧ activeBooking flyingA 0 = some (liftA .active 1) := by decide +kernel
theorem witness_release :
    cranePresent haltedA 0 = true ∧ haltedA.mode = .operating ∧ (haltedA.lane 0).state = .live
      ∧ (haltedA.wind 0).level ≠ .stow ∧ (haltedA.vane 0).state = .none
      ∧ suspendedBooking haltedA 0 = some (liftA .suspended 1) ∧ overlapZones haltedA 0 (footprint haltedA 0) = [] := by
  decide +kernel

/-- `runA` with zone 2 held by crane 2. -/
def sharedA : State :=
  { runA with air := { runA.air with zones := runA.air.zones.set 1 { ZoneRec.reset with st := .held 1 .motion 0 } } }

theorem witness_release_conflict :
    (useIn (footprint sharedA 0) 1).isSome = true ∧ (sharedA.zone 1).holder = some 1
      ∧ (sharedA.zone 0).holder = some 0 := by decide +kernel

/-- `runA` with cranes 2 and 3 waiting for zone 2. -/
def queuedA : State :=
  { runA with air := { runA.air with
      zones := runA.air.zones.set 1
        { ZoneRec.reset with st := .held 0 .motion 0, queue := [⟨1, .routine, .load⟩, ⟨2, .booked, .load⟩] }
      cranes := (runA.air.cranes.set 1 { ArbRec.reset 0 with motionWait := some ⟨1, .load⟩ }).set 2
        { ArbRec.reset 0 with motionWait := some ⟨1, .load⟩ } } }

theorem witness_hold_limit :
    (queuedA.zone 1).st = .held 0 .motion 0 ∧ holdLimit queuedA 1 ≠ 0 ∧ (queuedA.zone 1).queue ≠ []
      ∧ (queuedA.zone 1).vacate = false := by decide +kernel
theorem witness_force_release :
    targetZone ⟨2, 2⟩ = some 1 ∧ zonePresent queuedA 1 = true ∧ queuedA.mode = .operating
      ∧ (queuedA.zone 1).heldBy.isSome = true ∧ (queuedA.zone 1).sweepPending = none
      ∧ ((queuedA.zone 1).queue.find? fun e => decide (e.cls ≠ .routine)).or (queuedA.zone 1).queue.head?
          = some ⟨2, .booked, .load⟩ ∧ mayUse queuedA 2 1 .load = true
      ∧ (∀ e ∈ (runA.zone 1).queue, mayUse runA e.crane 1 e.use = false) := by decide +kernel

/-- `queuedA` with zone 2 to be swept for crane 3. -/
def pendingA : State :=
  queuedA.setZone 1 { queuedA.zone 1 with sweepPending := some 2 }
theorem witness_force_release_swept :
    (pendingA.zone 1).sweepPending = some 2 ∧ (pendingA.zone 1).heldBy.isSome = true := by decide +kernel

theorem witness_footprint :
    useIn (footprint runA 0) 0 = some .jib ∧ useIn (footprint runA 0) 1 = some .load
      ∧ useIn (footprint runA 0) 63 = none ∧ (configA.zone 0).st = .free ∧ mayUse configA 0 0 .jib = true
      ∧ mayUse State.reset 0 0 .jib = false ∧ (sharedA.zone 1).holder = some 1
      ∧ (runA.zone 0).st = .held 0 .motion 0 := by decide +kernel
theorem witness_release_step :
    (∀ z, (runA.zone z).Sound)
      ∧ ((releaseStep 0 (footprint runA 0) (reachSet runA 0) false runA).zone 0).st = .held 0 .motion 0 := by
  decide +kernel

/-- `runA` with a grant of zone 2 to crane 1 that expires at 50. -/
def grantedA : State := { runA with access := { runA.access with grants := [⟨0, 1, ⟨true, false⟩, some 50⟩] } }

/-- A full grant table: crane 2 on zones 1 to 16. -/
def fullGrantsA : State :=
  { runA with access := { runA.access with
      grants := (List.finRange 16).map fun i => ⟨1, Fin.castLE (by decide) i, ⟨true, true⟩, none⟩ } }

theorem witness_zone_permissions :
    targetZone ⟨2, 64⟩ = some 63 ∧ zonePresent runA 63 = true ∧ (runA.perm 63).current = ⟨true, true⟩
      ∧ (∀ x, some 1 = some x → runA.clock.siteTime < x) ∧ ¬∀ x, some 0 = some x → runA.clock.siteTime < x := by
  refine ⟨by decide +kernel, by decide +kernel, by decide +kernel, fun x h => ?_, fun h => ?_⟩
  · cases h; decide +kernel
  · exact absurd (h 0 rfl) (by decide +kernel)
theorem witness_grant :
    targetCrane crane1 = some 0 ∧ cranePresent runA 0 = true ∧ zoneOf? 64 = some 63 ∧ zonePresent runA 63 = true
      ∧ (findGrant grantedA 0 1).isSome = true ∧ runA.access.grants.length < 16
      ∧ findGrant fullGrantsA 0 63 = none ∧ fullGrantsA.access.grants.length = 16
      ∧ (findGrant fullGrantsA 1 15).isSome = true := by decide +kernel
theorem witness_revoke :
    (⟨0, 1, ⟨true, false⟩, some 50⟩ : Grant) ∈ grantedA.access.grants ∧ crane1.sort = 1#8 ∧ crane1.value.toNat = 0 + 1
      ∧ ∀ g ∈ grantedA.access.grants, ¬(g.zone.val + 1 = 64) := by decide +kernel

def overriddenA : State :=
  { runA with access := { runA.access with perms := runA.access.perms.set 1 ⟨⟨false, false⟩, true, some 30⟩ } }
theorem witness_site_expiries :
    (overriddenA.perm 1).expiry = some 30 ∧ basePerms overriddenA 1 = ⟨true, true⟩
      ∧ findGrant grantedA 0 1 = some ⟨0, 1, ⟨true, false⟩, some 50⟩ := by decide +kernel

/-- `runA` with a zone held by crane 1, its base permissions, and a current setting that an override gives until 30. -/
def overriddenTo (z : Zone) (base current : PermSet) : State :=
  { runA with
    site := { siteA with zoneTable := some (tableA.set z ⟨true, 500, base, 60⟩) }
    access := { runA.access with perms := runA.access.perms.set z ⟨current, true, some 30⟩ }
    air := { runA.air with zones := runA.air.zones.set z { ZoneRec.reset with st := .held 0 .motion 0 } } }

/-- `runA` with a zone whose permissions are `current`, held by crane 1, and a grant of it to crane 1 that expires at 50. -/
def grantedTo (z : Zone) (current uses : PermSet) : State :=
  { runA with
    access := { perms := runA.access.perms.set z ⟨current, false, none⟩, grants := [⟨0, z, uses, some 50⟩] }
    air := { runA.air with zones := runA.air.zones.set z { ZoneRec.reset with st := .held 0 .motion 0 } } }

/-- A hold of zone `z` by crane 1 loses a use at the command. -/
def losesAt (c : Instr) (z : Zone) (s : State) : Bool :=
  match after c s with
  | none => false
  | some t => [Use.jib, Use.load].any fun u => mayUse s 0 z u && !mayUse t 0 z u

/-- Figure 4-3 at the expiry of an override: a hold in F whose use is lost becomes EXIT_ONLY, one whose use is still given
stays, and one outside F is released (R71, R79). -/
theorem witness_override_examined :
    useIn (footprint (overriddenTo 1 ⟨true, false⟩ ⟨true, true⟩) 0) 1 = some .load
      ∧ losesAt (.overrideExpiry 1) 1 (overriddenTo 1 ⟨true, false⟩ ⟨true, true⟩) = true
      ∧ seen (.overrideExpiry 1) (overriddenTo 1 ⟨true, false⟩ ⟨true, true⟩)
          (fun t => ((t.zone 1).st, t.recorder.queue.map (·.kind)))
          = some (.held 0 .exitOnly 0, [.permissionExpired, .exitOnly])
      ∧ losesAt (.overrideExpiry 1) 1 (overriddenTo 1 ⟨false, true⟩ ⟨true, true⟩) = true
      ∧ seen (.overrideExpiry 1) (overriddenTo 1 ⟨false, true⟩ ⟨true, true⟩) (fun t => (t.zone 1).st)
          = some (.held 0 .motion 0)
      ∧ useIn (footprint (overriddenTo 63 ⟨true, false⟩ ⟨true, true⟩) 0) 63 = none
      ∧ losesAt (.overrideExpiry 63) 63 (overriddenTo 63 ⟨true, false⟩ ⟨true, true⟩) = true
      ∧ seen (.overrideExpiry 63) (overriddenTo 63 ⟨true, false⟩ ⟨true, true⟩) (fun t => t.zone 63)
          = some ⟨.free, false, none, []⟩
      ∧ basePerms (overriddenTo 1 ⟨true, true⟩ ⟨true, true⟩) 1
          = ((overriddenTo 1 ⟨true, true⟩ ⟨true, true⟩).perm 1).current := by decide +kernel

/-- Figure 4-3 at the expiry of a grant (R75, R79). -/
theorem witness_grant_examined :
    losesAt (.grantExpiry 0 1) 1 (grantedTo 1 ⟨true, false⟩ ⟨false, true⟩) = true
      ∧ seen (.grantExpiry 0 1) (grantedTo 1 ⟨true, false⟩ ⟨false, true⟩)
          (fun t => ((t.zone 1).st, t.recorder.queue.map fun e => (e.kind, e.value)))
          = some (.held 0 .exitOnly 0, [(.grantExpired, 2), (.exitOnly, 2)])
      ∧ losesAt (.grantExpiry 0 1) 1 (grantedTo 1 ⟨false, true⟩ ⟨true, false⟩) = true
      ∧ seen (.grantExpiry 0 1) (grantedTo 1 ⟨false, true⟩ ⟨true, false⟩) (fun t => (t.zone 1).st)
          = some (.held 0 .motion 0)
      ∧ losesAt (.grantExpiry 0 63) 63 (grantedTo 63 ⟨false, false⟩ ⟨true, true⟩) = true
      ∧ seen (.grantExpiry 0 63) (grantedTo 63 ⟨false, false⟩ ⟨true, true⟩) (fun t => t.zone 63)
          = some ⟨.free, false, none, []⟩ := by decide +kernel

def rawMapA : List RawSector := ⟨2, [⟨1, 1, 0, 0⟩, ⟨2, 2, 50, 600⟩, noClaim, noClaim]⟩ :: List.replicate 15 sectorOk
def rawChartA : RawChart := ⟨2, ⟨300, 5000⟩ :: ⟨600, 2000⟩ :: List.replicate 14 ⟨0, 0⟩⟩
def zonesA : List ZoneStatic := List.replicate 16 ⟨true, 500, ⟨true, true⟩, 60⟩

theorem witness_segments :
    stagedProfile segOk = some profA ∧ stagedChart rawChartA = some chartA ∧ policyFieldsOk polA = true
      ∧ rawMapA.mapM stagedSector = some ([⟨0, .jib⟩, ⟨1, .hook 50 600⟩] :: List.replicate 15 [])
      ∧ (([⟨0, .jib⟩, ⟨1, .hook 50 600⟩] :: List.replicate 15 []).any namesTwice) = false
      ∧ zonesA.all zoneFieldsOk = true := by decide +kernel

/-- Crane 1's staging with every table complete. -/
def stagingA : CraneStaging :=
  { profile := some profA, chart := some chartA, policy := some polA
    map := Vector.replicate 16 (some [[⟨0, .jib⟩, ⟨1, .hook 50 600⟩]]) }
def withStaging (s : State) : State :=
  { s with site := { s.site with staging := s.site.staging.set 0 stagingA,
                                 zoneStaging := Vector.replicate 4 (some zonesA) } }
def commitA : StructuralCommit :=
  { profile := some profA, map := stagedMap stagingA, chart := some chartA, blocked := false }

theorem witness_structural :
    tableSetOf 7#8 = some (.structural true true true) ∧ (stagedMap stagingA).isSome = true
      ∧ (withStaging configA).mode = .config ∧ (withStaging configA).site.structural[(0 : Crane)] = none
      ∧ (withStaging configA).site.staging[(0 : Crane)] = stagingA
      ∧ (tablesWith (withStaging configA) 0 commitA).isPresent = true
      ∧ allChecks (withStaging configA) 0 (tablesWith (withStaging configA) 0 commitA) true = none := by decide +kernel

/-- `runA` with its staging complete and crane 1 slewing. -/
def movingA : State :=
  withStaging { runA with poses := runA.poses.set 0 (some { poseA with speed := ⟨40, 0, 0⟩ }) }
theorem witness_structural_waits :
    movingA.mode = .operating ∧ atRest movingA 0 = false ∧ cranePresent movingA 0 = true
      ∧ (tablesWith movingA 0 commitA).isPresent = true ∧ movingA.site.structural[(0 : Crane)] = none
      ∧ allChecks movingA 0 (tablesWith movingA 0 commitA) true = none := by decide +kernel
theorem witness_structural_replaces :
    (setStructural 0 (some commitA) movingA).site.structural[(0 : Crane)] = some commitA
      ∧ allChecks (setStructural 0 (some commitA) movingA) 0
          (tablesWith (setStructural 0 (some commitA) movingA) 0 commitA) true = none := by decide +kernel
theorem witness_policy_commit :
    ((withStaging configA).site.staging[(0 : Crane)]).policy = some polA ∧ check7 polA = true
      ∧ cranePresent (withStaging configA) 0 = true ∧ (withStaging runA).site.policyCommit[(0 : Crane)] = none
      ∧ (withStaging configA).mode = .config ∧ (withStaging runA).mode = .operating := by decide +kernel
theorem witness_zone_table :
    stagedZoneTable (withStaging runA) = some tableA ∧ presenceConflicts (withStaging runA) tableA = []
      ∧ heightConflict (withStaging runA) tableA = none := by decide +kernel

theorem witness_commence :
    configA.mode = .config ∧ judgeImage configA = none ∧ cranePresent configA 0 = true
      ∧ cranePresent configA 7 = false := by decide +kernel
theorem witness_site_reset : targetIsSite siteTgt = true ∧ flyingA.mode = .operating := by decide +kernel
theorem witness_restart :
    targetCrane crane1 = some 0 ∧ flyingA.mode = .operating ∧ activeBooking flyingA 0 = some (liftA .active 1)
      ∧ (flyingA.zone 1).st = .held 0 .booking 0 := by decide +kernel

/-- The grant's expiry at 50 is the only one to come. -/
theorem witness_site_time :
    (siteDues grantedA).map (·.1) = [50] ∧ grantedA.clock.siteTime = 0 ∧ TableSound grantedA.bookings
      ∧ siteDues runA = [] := by decide +kernel

/-- A Wind Monitor with a full gust window of three samples and the mean 120. -/
def windA (st : WindLevel) : WindRec :=
  { WindRec.initial true with level := st, last := some 90, window := [90, 80, 70], mean := some 120 }
theorem witness_wind :
    (windA .calm).mean = some 120 ∧ 1 ≤ polA.ng ∧ (windA .calm).window.length = polA.ng
      ∧ (WindRec.initial true).mean = none ∧ (WindRec.initial true).window.length < polA.ng := by decide +kernel
theorem witness_axis : 1 ≤ axisOk.decel ∧ axisOk.reaction ≤ 2000 ∧ (1 : Nat) ≤ 1 := by decide

/-- `runA` with crane 1 in a vane state and its zone 2 SWEPT for it. -/
def vaneS (st : VaneState) (lv : WindLevel) : State :=
  { runA with
    vanes := runA.vanes.set 0 { state := st, start := some 0, timeout := some 60000, blocked := false }
    winds := runA.winds.set 0 (windA lv)
    air := { runA.air with zones := runA.air.zones.set 1 { ZoneRec.reset with st := .swept 0 0 } } }
theorem witness_vane :
    ((vaneS .preparing .stow).vane 0).state = .preparing ∧ ((vaneS .preparing .stow).vane 0).timeout = some 60000
      ∧ ((vaneS .vaning .calm).vane 0).state = .vaning ∧ ((vaneS .vaning .calm).wind 0).level ≠ .stow
      ∧ ((vaneS .vaning .stow).wind 0).level = .stow ∧ (runA.vane 0).state ≠ .vaning
      ∧ ((vaneS .vaning .calm).zone 1).st = .swept 0 0
      ∧ (useIn (footprint (vaneS .vaning .calm) 0) 1).isSome = true := by decide +kernel

theorem witness_book_lift :
    targetBooking ⟨3, 9⟩ = some 9 ∧ (liftS .done 1).profile 0 = some profA ∧ (liftS .done 1).chart 0 = some chartA
      ∧ planA.crane = (0 : Crane).val + 1 ∧ planA.opens < planA.closes ∧ runA.clock.siteTime < planA.closes
      ∧ planA.route.take planA.routeCount = ([1] : List Zone).map zoneNum
      ∧ (∀ b ∈ (liftS .done 1).bookings, b.id ≠ 9)
      ∧ (∀ z ∈ ([1] : List Zone), zonePresent runA z = true) ∧ profA.rmin ≤ planA.pickRadius
      ∧ planA.pickRadius ≤ profA.rmax ∧ planA.load ≤ ratedLoad 0 chartA planA.pickRadius
      ∧ (∀ b ∈ (liftS .done 1).bookings, b.crane = 0 →
          b.state ∈ [BookingState.logged, .opened, .active, .suspended] →
          b.closes ≤ planA.opens ∨ planA.closes ≤ b.opens) := by decide +kernel
theorem witness_cancel :
    findBooking (liftS .logged 0) 5 = some (liftA .logged 0) ∧ findBooking flyingA 5 = some (liftA .active 1)
      ∧ findBooking (liftS .suspended 1) 5 = some (liftA .suspended 1) ∧ TableSound flyingA.bookings
      ∧ findBooking (liftS .lapsed 1) 5 = some (liftA .lapsed 1) ∧ findBooking runA 5 = none
      ∧ targetBooking ⟨3, 5⟩ = some 5 := by decide +kernel
theorem witness_window :
    findBooking (liftS .opened 0) 5 = some (liftA .opened 0) ∧ (liftA .active 1).overtime = false
      ∧ (liftA .logged 0).state = .logged ∧ (liftA .suspended 1).state = .suspended := by decide +kernel

/-! ### One step of each kind of command, on the small site -/

/-- One byte of the last frame sent. -/
def lastByte (i : Nat) (s : State) : Nat := ((s.sent.getLast?.bind fun f => f.bytes[i]?).map (·.toNat)).getD 999

/-- R22, R158: power-on while operating. -/
theorem test_power_on : seen .powerOn runA (fun t => (t.mode, (t.lane 0).control, t.recorder.settings.pace))
    = some (.config, .halted, 50) := by decide +kernel
/-- R25, R42: the number 7 again is a gap of 255; the pose is forwarded to the cab. -/
theorem test_pose_repeated : seen (.poseFrame 0 (poseFrameA 7)) runA
    (fun t => ((t.counter 0 .seqGaps).value, t.sent.map (·.port), lastByte 2 t)) = some (255, [.c 0], 7) := by
  decide +kernel
/-- R34, R28: the fourth pose of a run makes the lane LIVE, and with the cab SILENT a STOP follows (SUBSTITUTE is bit 3). -/
theorem test_pose_silent : seen (.poseFrame 0 (poseFrameA 8)) (laneS .syncing 3)
    (fun t => ((t.lane 0).state, t.sent.map (·.port), lastByte 12 t, (t.counter 0 .stopSubstitutes).value))
      = some (.live, [.c 0, .d 0], 8, 1) := by decide +kernel
/-- R38, Figure 11-5: with nothing ahead the slew speed 40 passes unclamped. -/
theorem test_demand_free : seen (.demandFrame 0 (demandFrameA 40 0 0 0)) runA
    (fun t => (t.sent.map (·.port), lastByte 2 t, lastByte 3 t, lastByte 12 t, lastByte 13 t))
      = some ([.d 0], 0, 40, 0, 0) := by decide +kernel
/-- R40: a HALTED crane gets zero speeds and the reason HALT, bit 1. -/
theorem test_demand_halted : seen (.demandFrame 0 (demandFrameA 40 0 0 0)) haltedA
    (fun t => (lastByte 3 t, lastByte 12 t, lastByte 13 t)) = some (0, 0, 2) := by decide +kernel
/-- R171: an idle line with 31 bytes in progress counts one frame error and empties the port. -/
theorem test_idle_line : seen (.idleLineEnd (.d 0)) { runA with line := { runA.line with d := runA.line.d.set 0 (poseFrameA 8 |>.take 31) } }
    (fun t => ((t.counter 0 .frameErrors).value, t.line.d[(0 : Crane)])) = some (1, []) := by decide +kernel
/-- R161, Figure 10-1: kind 7 is HALT CRANE; it is answered with its kind, its tag and DONE. -/
theorem test_request_frame : seen (.managementFrame (requestFrameA 7 128 [])) runA
    (fun t => ((t.lane 0).control, lastByte 0 t, lastByte 1 t, lastByte 2 t, lastByte 3 t))
      = some (.halted, 4, 7, 9, 0) := by decide +kernel
/-- R29, R56, R145: a LIVE lane goes STALE, the holds freeze, the lift is suspended. -/
theorem test_tstale : seen (.tstaleExpiry 0) flyingA
    (fun t => ((t.lane 0).state, (t.zone 0).st, (t.zone 1).st, t.bookings.map (·.state), (t.lane 0).tlost))
      = some (.stale, .held 0 .frozen 0, .held 0 .frozen 0, [.suspended], some 2250) := by decide +kernel
theorem test_tlost : seen (.tlostExpiry 0) (laneS .stale 0)
    (fun t => ((t.lane 0).state, (t.lane 0).control, t.now)) = some (.lost, .halted, 2000) := by decide +kernel
theorem test_tcab : seen (.tcabExpiry 0) runA (fun t => ((t.lane 0).cab, t.now)) = some (.silent, 200) := by
  decide +kernel
/-- R58: the hold limit of 60 s on a hold taken at 0. -/
theorem test_hold_limit : seen (.holdLimitExpiry 1) queuedA (fun t => ((t.zone 1).vacate, t.now)) = some (true, 60000) := by
  decide +kernel
theorem test_vane_timeout : seen (.vaneTimeout 0) (vaneS .preparing .stow) (fun t => ((t.vane 0).blocked, t.now))
    = some (true, 60000) := by decide +kernel
/-- R157: pace 50 is a period of 20 ms; LANE_STATE leads the queue. -/
theorem test_pace : seen .paceTimerExpiry (queueS fullQueue 0)
    (fun t => (t.recorder.paceTimer, t.recorder.queue.length, lastByte 0 t, lastByte 2 t)) = some (40, 31, 5, 1) := by
  decide +kernel
theorem test_transfer : seen .transferIntervalExpiry (count 0 .overruns 3 timedA)
    (fun t => ((t.counter 0 .overruns).value, (t.recorder.reports[(0 : Crane)]).values[(5 : Fin 9)].value,
      t.recorder.queue.map (·.value))) = some (0, 3, [255]) := by decide +kernel
theorem test_site_second : seen .siteSecond { runA with clock := ⟨4294967295, 500⟩ } (fun t => (t.clock, t.now))
    = some (⟨4294967295, 1500⟩, 1500) := by decide +kernel
theorem test_override_expiry : seen (.overrideExpiry 1) overriddenA (fun t => (t.perm 1, t.clock.siteTime))
    = some (⟨⟨true, true⟩, false, none⟩, 30) := by decide +kernel
theorem test_grant_expiry : seen (.grantExpiry 0 1) grantedA (fun t => (t.access.grants.length, t.clock.siteTime))
    = some (0, 50) := by decide +kernel
theorem test_window_open : seen (.windowOpenEvent 5) (liftS .logged 0) (fun t => (t.bookings.map (·.state), t.clock.siteTime))
    = some ([.opened], 10) := by decide +kernel
theorem test_window_close : seen (.windowCloseEvent 5) (liftS .suspended 1)
    (fun t => t.bookings.map fun b => (b.state, b.outcome.endTime)) = some [(.lapsed, some 20)] := by decide +kernel
/-- R12: segment 0 of a map restarts the map's staging. -/
theorem test_load_segment : seen (.loadSegment 1 crane1 0 (.reachMap rawMapA)) (withStaging runA)
    (fun t => ((t.staging 0).map[(0 : Fin 16)].isSome, (t.staging 0).map[(1 : Fin 16)], lastByte 3 t))
      = some (true, none, 0) := by decide +kernel
/-- R13, R17: a structural commit of a moving crane is PENDING, status 1. -/
theorem test_commit : seen (.commit 1 crane1 7#8) movingA
    (fun t => (t.site.structural[(0 : Crane)], (t.staging 0).profile, lastByte 3 t)) = some (some commitA, none, 1) := by
  decide +kernel
theorem test_commence : seen (.commence 1 siteTgt) configA (fun t => (t.mode, (t.lane 0).control, (t.lane 1).control))
    = some (.operating, .run, .halted) := by decide +kernel
theorem test_site_reset : seen (.siteReset 1 siteTgt) flyingA
    (fun t => (t.mode, (t.zone 1).st, t.bookings.map (·.reason))) = some (.config, .free, [some .reset]) := by
  decide +kernel
theorem test_crane_restart : seen (.craneRestart 1 crane1) runA
    (fun t => ((t.lane 0).state, t.pose 0, (t.zone 0).st, (t.lane 0).cab))
      = some (.syncing, none, .held 0 .frozen 0, .active) := by decide +kernel
/-- R168: setting site time forward to 60 takes the grant's expiry at 50. -/
theorem test_set_site_time : seen (.setSiteTime 1 siteTgt 60) grantedA (fun t => (t.clock, t.access.grants))
    = some (⟨60, 0⟩, []) := by decide +kernel
theorem test_halt : seen (.haltCrane 1 crane1) flyingA (fun t => ((t.lane 0).control, t.bookings.map (·.reason)))
    = some (.halted, [some .halt]) := by decide +kernel
/-- R36, R162: zone 2 of the footprint is crane 2's: REFUSED, CONFLICT is the eighth reason. -/
theorem test_release_conflict : seen (.releaseCrane 1 crane1) sharedA
    (fun t => (lastByte 3 t, lastByte 4 t, lastByte 7 t)) = some (2, 8, 2) := by decide +kernel
theorem test_release : seen (.releaseCrane 1 crane1) haltedA (fun t => ((t.lane 0).control, t.bookings.map (·.state)))
    = some (.run, [.active]) := by decide +kernel
theorem test_resume : seen (.resumeCrane 1 crane1) (vaneS .vaning .calm)
    (fun t => ((t.vane 0).state, (t.zone 1).heldBy)) = some (.none, some 0) := by decide +kernel
/-- R51: the BOOKED entry goes before the older ROUTINE one. -/
theorem test_force_release : seen (.forceReleaseZone 1 ⟨2, 2⟩) queuedA
    (fun t => ((t.zone 1).holder, (t.zone 1).queue.map (·.crane))) = some (some 2, [1]) := by decide +kernel
/-- R76, R79: with every use withdrawn the hold becomes EXIT_ONLY. -/
theorem test_permissions : seen (.setZonePermissions 1 ⟨2, 2⟩ 1 noPerms none) runA
    (fun t => ((t.perm 1).override, (t.zone 1).st)) = some (true, .held 0 .exitOnly 0) := by decide +kernel
theorem test_grant : seen (.grantAccess 1 crane1 64 ⟨true, false⟩ none) runA (fun t => t.access.grants)
    = some [⟨0, 63, ⟨true, false⟩, none⟩] := by decide +kernel
theorem test_revoke : seen (.revokeAccess 1 crane1 2) grantedA (fun t => t.access.grants) = some [] := by decide +kernel
theorem test_book : seen (.bookLift 1 ⟨3, 9⟩ planA) (liftS .done 1) (fun t => t.bookings.map fun b => (b.id, b.state))
    = some [(5, .done), (9, .logged)] := by decide +kernel
theorem test_cancel : seen (.cancelBooking 1 ⟨3, 5⟩) flyingA (fun t => (t.bookings.map (·.state), (t.zone 1).st))
    = some ([.cancelled], .held 0 .motion 0) := by decide +kernel
theorem test_retire : seen (.retireBooking 1 ⟨3, 5⟩) (liftS .lapsed 1) (fun t => t.bookings.length) = some 0 := by
  decide +kernel
/-- R174: 50 bytes of data take three frames, the last with index 2 and the last mark. -/
theorem test_read_zone : seen (.readZone 1 ⟨2, 1⟩) runA (fun t => (t.sent.length, lastByte 8 t)) = some (3, 130) := by
  decide +kernel
theorem test_read_crane : seen (.readCrane 1 crane1 8) runA (fun t => (t.sent.length, lastByte 3 t, lastByte 4 t))
    = some (1, 2, 3) := by decide +kernel
theorem test_read_capture : seen (.readCapture 1 siteTgt 0) capturedA (fun t => (t.recorder.capture, t.recorder.missed))
    = some (none, 0) := by decide +kernel
theorem test_snapshot : seen (.snapshotCounters 1 crane1) (count 0 .overlaps 2 runA)
    (fun t => ((t.counter 0 .overlaps).value, t.recorder.queue.map (·.crane))) = some (0, [some 0]) := by decide +kernel
theorem test_trigger : seen (.triggerCapture 1 siteTgt) capturedA (fun t => (lastByte 8 t, t.recorder.missed))
    = some (2, 255) := by decide +kernel

end Sys2Proof.Tests
end

/-! PROOFS. The sequence gap of a pose (R25): what a count does to each counter, bytes of a pose collected into a frame,
and the operations that keep a lane's last sequence number and its SEQ_GAPS. -/

namespace Sys2Proof.Machine

/-! ### Counters read back (R152) -/

theorem CounterId.idx_injective : Function.Injective CounterId.idx := by
  intro c d
  cases c <;> cases d <;> decide

theorem counter_congr {s t : State} (h : t.recorder.counters = s.recorder.counters) (k : Crane) (c : CounterId) :
    t.counter k c = s.counter k c := by
  unfold State.counter; rw [h]

@[simp] theorem count_counter_self (k : Crane) (c : CounterId) (n : Nat) (s : State) :
    (count k c n s).counter k c = (s.counter k c).add n := by
  simp [count, State.counter]

/-- Counting on one counter leaves the other counters of every crane as they were. -/
theorem count_counter_ne {c d : CounterId} (h : c ≠ d) (j k : Crane) (n : Nat) (s : State) :
    (count j c n s).counter k d = s.counter k d := by
  have hi : (c.idx : Nat) ≠ d.idx := Fin.val_ne_of_ne (CounterId.idx_injective.ne h)
  by_cases hj : j = k
  · subst hj
    simp [count, State.counter, hi]
  · simp [count, State.counter, Fin.val_ne_of_ne hj]

@[simp] theorem State.setLane_counter (s : State) (j k : Crane) (l : Lane) (c : CounterId) :
    (s.setLane j l).counter k c = s.counter k c := rfl

/-! ### Bytes of a pose (R171) -/

theorem setLineD_d_self (k : Crane) (bs : List RxByte) (s : State) : (s.setLineD k bs).line.d[k] = bs := by
  simp [State.setLineD]

theorem setLineD_setLineD (k : Crane) (as bs : List RxByte) (s : State) :
    (s.setLineD k as).setLineD k bs = s.setLineD k bs := by
  simp [State.setLineD]

theorem setLineD_same {k : Crane} {bs : List RxByte} {s : State} (h : s.line.d[k] = bs) : s.setLineD k bs = s := by
  subst h
  simp [State.setLineD]

/-- Bytes short of a whole frame are collected. -/
theorem foldl_arriveD_short (k : Crane) (bs : List RxByte) (s : State) (h : (s.line.d[k] ++ bs).length < 32) :
    bs.foldl (arriveD k) s = s.setLineD k (s.line.d[k] ++ bs) := by
  induction bs generalizing s with
  | nil => simpa using (setLineD_same rfl).symm
  | cons b bs ih =>
    have hb : arriveD k s b = s.setLineD k (s.line.d[k] ++ [b]) :=
      if_pos (by simp only [List.length_append, List.length_cons, List.length_nil] at h ⊢; omega)
    rw [List.append_cons] at h ⊢
    rw [List.foldl_cons, hb, ih _ (by rwa [setLineD_d_self]), setLineD_d_self, setLineD_setLineD]

/-- 32 bytes on an idle D-port are judged as one frame. -/
theorem foldl_arriveD_frame {k : Crane} {f : List RxByte} {s : State} (hd : s.line.d[k] = []) (hf : f.length = 32) :
    f.foldl (arriveD k) s = judgeOnD k f s := by
  obtain rfl | ⟨bs, b, rfl⟩ := List.eq_nil_or_concat f
  · cases hf
  rw [List.concat_eq_append, List.length_append, List.length_singleton] at hf
  have hbs : bs.foldl (arriveD k) s = s.setLineD k bs := by
    rw [foldl_arriveD_short k bs s (by rw [hd, List.nil_append]; omega), hd, List.nil_append]
  have hlast : arriveD k (s.setLineD k bs) b = judgeOnD k (bs ++ [b]) s := by
    unfold arriveD
    rw [setLineD_d_self, setLineD_setLineD, setLineD_same hd]
    exact if_neg (by simp [hf])
  rw [List.concat_eq_append, List.foldl_append, hbs, List.foldl_cons, List.foldl_nil, hlast]

/-! ### Fields of a pose frame (R42, R172) -/

theorem unsignedAt_one_lt (f : List Byte) (i : Nat) : unsignedAt f i 1 < 256 := by
  unfold unsignedAt fieldAt
  cases f.drop i with
  | nil => decide
  | cons b bs => simpa [readBe] using b.isLt

theorem unsignedAt_forwardedPose_seq (s : State) (k : Crane) (p : Pose) (flags : Nat) :
    unsignedAt (sealFrame (forwardedPose s k p flags)) 2 1 = p.seq % 256 := by
  simp [unsignedAt, fieldAt, sealFrame, forwardedPose, readBe, byte]

/-! ### What keeps the last sequence number and SEQ_GAPS -/

/-- From `s` to `t` the last sequence number and the SEQ_GAPS counter of lane k stay as they are. -/
structure SeqKept (k : Crane) (s t : State) : Prop where
  lastSeq : (t.lane k).lastSeq = (s.lane k).lastSeq
  seqGaps : t.counter k .seqGaps = s.counter k .seqGaps

namespace SeqKept

theorem refl (k : Crane) (s : State) : SeqKept k s s := ⟨rfl, rfl⟩

/-- The last of several operations, after what the ones before it keep. -/
theorem after {k : Crane} {s t u : State} (h' : SeqKept k t u) (h : SeqKept k s t) : SeqKept k s u :=
  ⟨h'.lastSeq.trans h.lastSeq, h'.seqGaps.trans h.seqGaps⟩

theorem foldl {α : Type} {f : State → α → State} {k : Crane} (h : ∀ s a, SeqKept k s (f s a)) (l : List α)
    (s : State) : SeqKept k s (l.foldl f s) :=
  foldl_keeps (fun t a ht => (h t a).after ht) l s (.refl k s)

theorem setLane {j k : Crane} {l : Lane} {s : State} (h : l.lastSeq = (s.lane j).lastSeq) :
    SeqKept k s (s.setLane j l) where
  lastSeq := by
    rw [State.setLane_lane]
    split
    · next hk => rw [hk, h]
    · rfl
  seqGaps := rfl

theorem count {j k : Crane} {c : CounterId} (n : Nat) (s : State) (h : c ≠ .seqGaps) :
    SeqKept k s (count j c n s) :=
  ⟨rfl, count_counter_ne h j k n s⟩

end SeqKept

/-- An operation outside lanes and counters, after what keeps the number and the counter. -/
theorem Within.seqKept {w : Touch} {k : Crane} {s t u : State} (h' : Within w t u) (h : SeqKept k s t)
    (hl : w.lanes = false := by rfl) (hc : w.counters = false := by rfl) : SeqKept k s u :=
  SeqKept.after ⟨by rw [lane_congr (h'.lanes hl)], counter_congr (h'.recorder.counters hc) k _⟩ h

/-- An operation outside the counters that writes one lane, and there not the last sequence number. -/
theorem Within.seqKept_of_lanes {w : Touch} {j k : Crane} {l : Lane} {s t : State} (h : Within w s t)
    (ht : t.lanes = (s.setLane j l).lanes) (hl : l.lastSeq = (s.lane j).lastSeq) (hc : w.counters = false := by rfl) :
    SeqKept k s t where
  lastSeq := by rw [lane_congr ht, (SeqKept.setLane hl).lastSeq]
  seqGaps := counter_congr (h.recorder.counters hc) k _

theorem setLaneState_seqKept (j k : Crane) (new : LaneState) (s : State) : SeqKept k s (setLaneState j new s) :=
  (setLaneState_within j new s).seqKept_of_lanes (setLaneState_lanes j new s) rfl

theorem haltState_seqKept (j k : Crane) (s : State) : SeqKept k s (haltState j s) :=
  (haltState_within j s).seqKept_of_lanes (haltState_lanes j s) rfl

theorem startTstale_seqKept (j k : Crane) (s : State) : SeqKept k s (startTstale j s) := .setLane rfl

theorem startTlost_seqKept (j k : Crane) (s : State) : SeqKept k s (startTlost j s) := .setLane rfl

theorem becomeLive_seqKept (j k : Crane) (s : State) : SeqKept k s (becomeLive j s) :=
  (restartTimer_within _ _).seqKept ((startTstale_seqKept _ _ _).after (setLaneState_seqKept _ _ _ _))

/-- The way of a lane through its states leaves its last sequence number (R25, R28 to R31). -/
theorem advanceLane_seqKept (k : Crane) (last : Option Nat) (seq : Nat) (s : State) :
    SeqKept k s (advanceLane k last seq s).2 := by
  unfold advanceLane
  dsimp only
  split
  · split
    · exact .setLane rfl
    · have h : SeqKept k s (becomeLive k (s.setLane k { s.lane k with syncRun := 0 })) :=
        (becomeLive_seqKept _ _ _).after (.setLane rfl)
      dsimp only
      split
      · exact (markSettling_within _ _).seqKept h
      · exact h
  · exact startTstale_seqKept _ _ _
  · exact (becomeLive_seqKept _ _ _).after (.setLane rfl)
  · exact (setLaneState_seqKept _ _ _ _).after (.setLane rfl)

/-! ### The blocks of the pose path (R27) -/

theorem countIntrusion_seqKept (j k : Crane) (s : State) : SeqKept k s (countIntrusion j s) := by
  have h : SeqKept k s (count j .intrusions 1 s) := .count 1 s (by decide)
  unfold countIntrusion
  dsimp only
  split
  · exact h
  · exact (updateBooking_within _ _ _).seqKept h

theorem intrude_seqKept (j k : Crane) (z : Zone) (s : State) : SeqKept k s (intrude j z s) :=
  (trigger_within _ _ _ _).seqKept ((offer_within _ _).seqKept ((countIntrusion_seqKept _ _ _).after
    ((acquire_within _ _ _ _).seqKept (.refl _ _))))

theorem breach_seqKept (j k : Crane) (z : Zone) (u : Use) (s : State) : SeqKept k s (breach j z u s) :=
  (trigger_within _ _ _ _).seqKept ((offer_within _ _).seqKept ((countIntrusion_seqKept _ _ _).after
    ((acquire_within _ _ _ _).seqKept (.refl _ _))))

theorem overlap_seqKept (j k : Crane) (z : Zone) (i : Crane) (s : State) : SeqKept k s (overlap j z i s) :=
  (trigger_within _ _ _ _).seqKept ((offer_within _ _).seqKept (.count 1 s (by decide)))

theorem footprintZone_seqKept (j k : Crane) (f : List Occ) (settling : Bool) (old : List Zone) (s : State) (z : Zone) :
    SeqKept k s (footprintZone j f settling old s z) := by
  unfold footprintZone
  split
  · exact .refl k s
  split
  · split
    · exact .refl k s
    · exact overlap_seqKept _ _ _ _ _
  split
  · split
    · exact (acquire_within _ _ _ _).seqKept (.refl k s)
    · exact intrude_seqKept _ _ _ _
  · split
    · exact (takeExitOnly_within _ _ _ _).seqKept (.refl k s)
    · exact breach_seqKept _ _ _ _ _

theorem footprintStep_seqKept (j k : Crane) (f : List Occ) (settling : Bool) (s : State) :
    SeqKept k s (footprintStep j f settling s) :=
  (foldl_within (entitlementZone_within j f) _ _).seqKept ((setArb_within _ _ _).seqKept
    (.foldl (footprintZone_seqKept j k f settling _) _ _))

theorem judgePose_seqKept (j k : Crane) (s : State) : SeqKept k s (judgePose j s) := by
  have released (reach : List Occ) (brake : Bool) : SeqKept k s
      (releaseStep j (footprint s j) reach brake (footprintStep j (footprint s j) (s.arb j).settling s)) :=
    (releaseStep_within _ _ _ _ _).seqKept (footprintStep_seqKept _ _ _ _ _)
  unfold judgePose
  dsimp only
  split
  · exact (setArb_within _ _ _).seqKept (released _ _)
  · exact (SeqKept.foldl (fun t i => haltState_seqKept i k t) _ _).after ((haltState_seqKept _ _ _).after
      ((setArb_within _ _ _).seqKept (released _ _)))

theorem overrunCheck_seqKept (j k : Crane) (s : State) : SeqKept k s (overrunCheck j s) := by
  unfold overrunCheck
  split
  · exact (setGov_within _ _ _).seqKept (.refl k s)
  split
  · exact .refl k s
  · exact (setGov_within _ _ _).seqKept ((trigger_within _ _ _ _).seqKept ((offer_within _ _).seqKept
      (.count 1 s (by decide))))

theorem poseBlocks_seqKept (j k : Crane) (live : Bool) (s : State) : SeqKept k s (poseBlocks j live s) := by
  unfold poseBlocks
  refine (pendingCommitStep_within _ _).seqKept ((bookingOnPose_within _ _ _ _).seqKept
    ((vaneOnPose_within _ _ _ _).seqKept ((windOnPose_within _ _).seqKept ?_)))
  split
  · exact (chartJudge_within _ _).seqKept ((overrunCheck_seqKept _ _ _).after (judgePose_seqKept _ _ _))
  · exact .refl k s

/-! ### Forwarding and substitution (R34, R42) -/

theorem substituteStop_seqKept (j k : Crane) (s : State) : SeqKept k s (substituteStop j s) := by
  unfold substituteStop
  split
  · have h : SeqKept k s (sendDemand j (.all 0) (.all false) (reasonFlags s j) true s) :=
      (sendDemand_within j _ _ _ _ s).seqKept_of_lanes (sendDemand_lanes j _ _ _ _ s) rfl
    exact (SeqKept.count 1 _ (by decide)).after h
  · exact .refl k s

/-- What a substituted STOP sends comes after what has been sent. -/
theorem substituteStop_sent (k : Crane) (s : State) : ∃ more, (substituteStop k s).sent = s.sent ++ more := by
  unfold substituteStop
  split
  · rw [(count_within _ _ _ _).sent rfl, sendDemand_sent]
    exact ⟨_, rfl⟩
  · exact ⟨[], (List.append_nil _).symm⟩

theorem forwardPose_sent {k : Crane} {s : State} {p : Pose} (h : s.pose k = some p) (flags : Nat) :
    (forwardPose k flags s).sent = s.sent ++ [⟨.c k, sealFrame (forwardedPose s k p flags)⟩] := by
  simp [forwardPose, h, send]

/-! ### The sequence step and an accepted pose (R25) -/

theorem seqGap_none (seq : Nat) : seqGap none seq = 0 := rfl

theorem seqGap_some (last seq : Nat) : seqGap (some last) seq = (((seq : Int) - last - 1) % 256).toNat := by
  simp only [seqGap]
  omega

theorem seqStep_lastSeq (k : Crane) (seq : Nat) (s : State) : ((seqStep k seq s).lane k).lastSeq = some seq := by
  simp [seqStep]

theorem seqStep_seqGaps (k : Crane) (seq : Nat) (s : State) :
    (seqStep k seq s).counter k .seqGaps = if seqGap (s.lane k).lastSeq seq = 0 then s.counter k .seqGaps
      else (s.counter k .seqGaps).add (seqGap (s.lane k).lastSeq seq) := by
  simp only [seqStep, State.setLane_counter]
  split
  · rfl
  · exact count_counter_self _ _ _ _

@[simp] theorem recordPose_pose_self (k : Crane) (i : PoseIn) (s : State) :
    (recordPose k i s).pose k = some (poseRecord (s.pose k) i s.stamp) := by
  simp [recordPose]

/-- The pose numbered, recorded and taken by the lane state: whether the lane became LIVE, and the state then. -/
def advancedPose (k : Crane) (f : List Byte) (s : State) : Bool × State :=
  advanceLane k (s.lane k).lastSeq (poseIn f).seq (recordPose k (poseIn f) (seqStep k (poseIn f).seq s))

/-- The state in which the blocks have acted on the pose, before it is forwarded. -/
def judgedPose (k : Crane) (f : List Byte) (s : State) : State :=
  poseBlocks k (advancedPose k f s).1 (advancedPose k f s).2

theorem acceptPose_eq (k : Crane) (f : List Byte) (s : State) :
    acceptPose k f s = substituteStop k (forwardPose k (poseIn f).flags (judgedPose k f s)) := rfl

/-- After the sequence step an accepted pose touches neither the last sequence number nor SEQ_GAPS. -/
theorem acceptPose_seqKept (k : Crane) (f : List Byte) (s : State) :
    SeqKept k (seqStep k (poseIn f).seq s) (acceptPose k f s) := by
  have advanced : SeqKept k (seqStep k (poseIn f).seq s) (advancedPose k f s).2 := by
    unfold advancedPose
    exact (advanceLane_seqKept _ _ _ _).after ((recordPose_within _ _ _).seqKept (.refl _ _))
  have judged : SeqKept k (seqStep k (poseIn f).seq s) (judgedPose k f s) := by
    unfold judgedPose
    exact (poseBlocks_seqKept _ _ _ _).after advanced
  rw [acceptPose_eq]
  exact (substituteStop_seqKept _ _ _).after ((forwardPose_within _ _ _).seqKept judged)

theorem acceptPose_lastSeq (k : Crane) (f : List Byte) (s : State) :
    ((acceptPose k f s).lane k).lastSeq = some (unsignedAt f 2 1) :=
  (acceptPose_seqKept k f s).lastSeq.trans (seqStep_lastSeq k _ s)

theorem acceptPose_seqGaps (k : Crane) (f : List Byte) (s : State) :
    (acceptPose k f s).counter k .seqGaps = if seqGap (s.lane k).lastSeq (unsignedAt f 2 1) = 0
      then s.counter k .seqGaps else (s.counter k .seqGaps).add (seqGap (s.lane k).lastSeq (unsignedAt f 2 1)) :=
  (acceptPose_seqKept k f s).seqGaps.trans (seqStep_seqGaps k _ s)

theorem judgedPose_pose (k : Crane) (f : List Byte) (s : State) :
    ∃ p, (judgedPose k f s).pose k = some p ∧ p.seq = unsignedAt f 2 1 := by
  rw [judgedPose, pose_congr ((poseBlocks_within _ _ _).poses rfl), advancedPose,
    pose_congr ((advanceLane_within _ _ _ _).poses rfl), recordPose_pose_self]
  exact ⟨_, rfl, rfl⟩

theorem judgedPose_sent (k : Crane) (f : List Byte) (s : State) : (judgedPose k f s).sent = s.sent := by
  rw [judgedPose, (poseBlocks_within _ _ _).sent rfl, advancedPose, (advanceLane_within _ _ _ _).sent rfl,
    (recordPose_within _ _ _).sent rfl, (seqStep_within _ _ _).sent rfl]

/-- An accepted pose is recorded and forwarded under its sequence number, whatever number came before it (R25). -/
theorem acceptPose_recorded_forwarded (k : Crane) (f : List Byte) (s : State) :
    ∃ p x more, (acceptPose k f s).pose k = some p ∧ p.seq = unsignedAt f 2 1
      ∧ (acceptPose k f s).sent = s.sent ++ ⟨.c k, x⟩ :: more ∧ unsignedAt x 2 1 = unsignedAt f 2 1 := by
  obtain ⟨p, hp, hseq⟩ := judgedPose_pose k f s
  obtain ⟨more, hmore⟩ := substituteStop_sent k (forwardPose k (poseIn f).flags (judgedPose k f s))
  refine ⟨p, sealFrame (forwardedPose (judgedPose k f s) k p (poseIn f).flags), more, ?_, hseq, ?_, ?_⟩
  · rw [acceptPose_eq, pose_congr ((substituteStop_within _ _).poses rfl),
      pose_congr ((forwardPose_within _ _ _).poses rfl), hp]
  · rw [acceptPose_eq, hmore, forwardPose_sent hp, judgedPose_sent, List.append_assoc, List.singleton_append]
  · rw [unsignedAt_forwardedPose_seq, hseq, Nat.mod_eq_of_lt (unsignedAt_one_lt f 2)]

/-! ### Outages and rejected poses (R25, R29, R31) -/

theorem becomeStale_seqKept (j k : Crane) (s : State) : SeqKept k s (becomeStale j s) := by
  have h : SeqKept k s (startTlost j (setLaneState j .stale (s.setLane j { s.lane j with tstale := none }))) :=
    (startTlost_seqKept _ _ _).after ((setLaneState_seqKept _ _ _ _).after (.setLane rfl))
  unfold becomeStale
  refine (suspend_within _ _ _).seqKept ((clearMarks_within _ _).seqKept ((leaveLive_within _ _).seqKept ?_))
  split
  · exact (widen_within _ _).seqKept ((freeze_within _ _).seqKept h)
  · exact h

theorem becomeLost_seqKept (j k : Crane) (s : State) : SeqKept k s (becomeLost j s) :=
  (trigger_within _ _ _ _).seqKept ((haltState_seqKept _ _ _).after ((setLaneState_seqKept _ _ _ _).after
    (.setLane rfl)))

theorem waitUntil_seqKept (k : Crane) (s : State) (t : Nat) : SeqKept k s (s.waitUntil t) := ⟨rfl, rfl⟩

theorem exec_tstaleExpiry_seqKept (j k : Crane) (s : State) :
    ∃ t, exec (.tstaleExpiry j) s = .next t ∧ SeqKept k s t := by
  refine ⟨_, rfl, ?_⟩
  split
  · exact .refl k s
  split
  · exact (becomeStale_seqKept _ _ _).after (waitUntil_seqKept k s _)
  · exact .refl k s

theorem exec_tlostExpiry_seqKept (j k : Crane) (s : State) :
    ∃ t, exec (.tlostExpiry j) s = .next t ∧ SeqKept k s t := by
  refine ⟨_, rfl, ?_⟩
  split
  · exact .refl k s
  split
  · exact (becomeLost_seqKept _ _ _).after (waitUntil_seqKept k s _)
  · exact .refl k s

theorem exec_poseFrame {k : Crane} {f : List RxByte} {s : State} (hd : s.line.d[k] = []) (hf : f.length = 32) :
    exec (.poseFrame k f) s = .next (judgeOnD k f s) :=
  congrArg Host.Outcome.next (foldl_arriveD_frame hd hf)

/-- Settles O28: after the sequence step an accepted pose keeps number and counter, and so do a rejected pose and the
expiries on the way through STALE and LOST. -/
theorem sequenceGapIsCounted : Obligations.SequenceGapIsCounted := by
  refine ⟨fun k s => ?_, fun k f s hd hf => ⟨judgeOnD k f s, exec_poseFrame hd hf, fun ha => ?_, fun ha => ?_⟩⟩
  · obtain ⟨t, ht, hstale⟩ := exec_tstaleExpiry_seqKept k k s
    obtain ⟨u, hu, hlost⟩ := exec_tlostExpiry_seqKept k k s
    exact ⟨⟨t, ht, hstale.lastSeq⟩, u, hu, hlost.lastSeq⟩
  · have accepted : judgeOnD k f s = acceptPose k (plainBytes f) s := if_pos ha
    rw [accepted]
    refine ⟨acceptPose_lastSeq k _ s, acceptPose_recorded_forwarded k _ s, fun hnone => ?_,
      fun last hlast _ => ⟨fun hg => ?_, fun hg => ?_, fun heq => ?_, fun heq => ?_⟩⟩
    · rw [acceptPose_seqGaps, hnone, seqGap_none, if_pos rfl]
    · rw [acceptPose_seqGaps, hlast, seqGap_some, if_pos hg]
    · rw [acceptPose_seqGaps, hlast, seqGap_some, if_neg hg]
    · omega
    · omega
  · have rejected : judgeOnD k f s = count k .frameErrors 1 s := if_neg (by simp [ha])
    have kept : SeqKept k s (count k .frameErrors 1 s) := .count 1 s (by decide)
    rw [rejected]
    exact ⟨kept.lastSeq, kept.seqGaps⟩

end Sys2Proof.Machine

/-! PROOFS. The permitted speed (R81, R82): rounding up as the library's ceiling, the stopping distance as a monotone
function of speed, and the search for the permitted speed as the library's greatest number below a bound. -/

namespace Sys2Proof.Machine

/-! ### Rounding up -/

theorem ceilDiv_le_iff {a b c : Nat} (hb : 0 < b) : ceilDiv a b ≤ c ↔ a ≤ b * c := by
  rw [ceilDiv, ← Nat.ceilDiv_eq_add_pred_div, ceilDiv_le_iff_le_mul hb]

theorem ceilDiv_eq_ceil {a b : Nat} (hb : 0 < b) : ceilDiv a b = ⌈(a : ℚ) / b⌉₊ := by
  refine eq_of_forall_ge_iff fun c => ?_
  rw [ceilDiv_le_iff hb, Nat.ceil_le, div_le_iff₀' (Nat.cast_pos.mpr hb)]
  exact_mod_cast Iff.rfl

theorem ceilDiv_mono (b : Nat) : Monotone (ceilDiv · b) := fun _ _ h =>
  Nat.div_le_div_right (Nat.sub_le_sub_right (Nat.add_le_add_right h b) 1)

/-! ### Stopping distance -/

theorem stopDist_mono (a : AxisDyn) : Monotone (stopDist a) := fun _ _ h =>
  Nat.add_le_add (ceilDiv_mono _ (Nat.mul_le_mul_right _ h)) (ceilDiv_mono _ (Nat.mul_le_mul h h))

theorem stopDist_eq_ceil {a : AxisDyn} (ha : 1 ≤ a.decel) (v : Nat) :
    stopDist a v = ⌈(v : ℚ) * a.reaction / 1000⌉₊ + ⌈(v : ℚ) ^ 2 / (2 * a.decel)⌉₊ := by
  rw [stopDist, ceilDiv_eq_ceil (by omega), ceilDiv_eq_ceil (by omega)]
  push_cast
  rw [sq]

theorem stopDist_zero {a : AxisDyn} (ha : 1 ≤ a.decel) : stopDist a 0 = 0 := by
  simp [stopDist_eq_ceil ha]

/-- Each term is largest at the ends of the ranges: 4000 · 2000 / 1000 and 4000² / 2. -/
theorem stopDist_le_of_ranges {a : AxisDyn} {v : Nat} (ha : 1 ≤ a.decel) (hT : a.reaction ≤ 2000) (hv : v ≤ 4000) :
    stopDist a v ≤ 8008000 := by
  have reacting : ceilDiv (v * a.reaction) 1000 ≤ 8000 :=
    (ceilDiv_le_iff (by omega)).2 ((Nat.mul_le_mul hv hT).trans_eq (by norm_num))
  have square : v * v ≤ 16000000 := (Nat.mul_le_mul hv hv).trans_eq (by norm_num)
  have braking : ceilDiv (v * v) (2 * a.decel) ≤ 8000000 := (ceilDiv_le_iff (by omega)).2 (by omega)
  rw [stopDist]
  omega

theorem stopDist_at_range_ends (vcap clearance : Nat) : stopDist ⟨vcap, 1, 2000, clearance⟩ 4000 = 8008000 := by
  norm_num [stopDist, ceilDiv]

/-- Figure 5-1's stopping distances. -/
theorem stopDist_figure (vcap clearance : Nat) :
    [8, 9, 10, 11, 12].map (stopDist ⟨vcap, 5, 300, clearance⟩) = [10, 12, 13, 17, 19] := by
  simp [stopDist, ceilDiv]

/-! ### Permitted speed -/

theorem largestSpeed_eq_findGreatest (a : AxisDyn) (d n : Nat) :
    largestSpeed a d n = Nat.findGreatest (fun v => stopDist a v ≤ d) n := by
  induction n with
  | zero => rfl
  | succ n ih => rw [largestSpeed, Nat.findGreatest_succ, ih]

theorem permittedSpeed_of_nonpos (a : AxisDyn) {d : Int} (hd : d ≤ 0) : permittedSpeed a d = 0 := if_pos hd

theorem permittedSpeed_of_pos (a : AxisDyn) {d : Int} (hd : 0 < d) :
    permittedSpeed a d = Nat.findGreatest (fun v => stopDist a v ≤ d.toNat) a.vcap := by
  rw [permittedSpeed, if_neg (by omega), largestSpeed_eq_findGreatest]

theorem permittedSpeed_le_vcap (a : AxisDyn) (d : Int) : permittedSpeed a d ≤ a.vcap := by
  rcases le_or_gt d 0 with hd | hd
  · simp [permittedSpeed_of_nonpos a hd]
  · rw [permittedSpeed_of_pos a hd]
    exact Nat.findGreatest_le _

theorem stopDist_permittedSpeed_le {a : AxisDyn} {d : Int} (ha : 1 ≤ a.decel) (hd : 0 < d) :
    (stopDist a (permittedSpeed a d) : Int) ≤ d := by
  have stops : stopDist a (permittedSpeed a d) ≤ d.toNat := by
    rw [permittedSpeed_of_pos a hd]
    exact Nat.findGreatest_spec (P := fun v => stopDist a v ≤ d.toNat) (Nat.zero_le _)
      ((stopDist_zero ha).trans_le (Nat.zero_le _))
  omega

theorem le_permittedSpeed {a : AxisDyn} {d : Int} {v : Nat} (hd : 0 < d) (hv : v ≤ a.vcap)
    (hs : (stopDist a v : Int) ≤ d) : v ≤ permittedSpeed a d := by
  rw [permittedSpeed_of_pos a hd]
  exact Nat.le_findGreatest hv (by omega)

/-- S is monotone, so the permitted speed is pinned between a speed that stops and the next, which does not. -/
theorem permittedSpeed_eq {a : AxisDyn} {d : Int} {v : Nat} (ha : 1 ≤ a.decel) (hd : 0 < d) (hv : v ≤ a.vcap)
    (hs : (stopDist a v : Int) ≤ d) (hnext : d < stopDist a (v + 1)) : permittedSpeed a d = v := by
  refine le_antisymm (not_lt.mp fun hlt => ?_) (le_permittedSpeed hd hv hs)
  have hmono : stopDist a (v + 1) ≤ stopDist a (permittedSpeed a d) := stopDist_mono a (Nat.succ_le_of_lt hlt)
  have hstop := stopDist_permittedSpeed_le ha hd
  omega

/-- Figure 5-1's permitted speeds, for every cap that leaves its speeds free. -/
theorem permittedSpeed_figure (vcap clearance : Nat) (hcap : 12 ≤ vcap) :
    [12, 13, 14, 15, 16, 17, 18, 19].map (fun d : Int => permittedSpeed ⟨vcap, 5, 300, clearance⟩ d)
      = [9, 10, 10, 10, 10, 11, 11, 12] := by
  have at_ (d : Int) (v : Nat) (hd : 0 < d) (hv : v ≤ 12) (hs : (stopDist ⟨vcap, 5, 300, clearance⟩ v : Int) ≤ d)
      (hnext : d < stopDist ⟨vcap, 5, 300, clearance⟩ (v + 1)) :
      permittedSpeed ⟨vcap, 5, 300, clearance⟩ d = v :=
    permittedSpeed_eq (Nat.le_add_left 1 4) hd (hv.trans hcap) hs hnext
  simp only [List.map_cons, List.map_nil]
  rw [at_ 12 9, at_ 13 10, at_ 14 10, at_ 15 10, at_ 16 10, at_ 17 11, at_ 18 11, at_ 19 12] <;>
    norm_num [stopDist, ceilDiv]

/-- Settles O55: the search for the permitted speed is the library's greatest one, and S is monotone. -/
theorem permittedSpeedIsTheLargestThatStops : Obligations.PermittedSpeedIsTheLargestThatStops := by
  refine ⟨fun a d hd => permittedSpeed_of_nonpos a hd, fun a d ha hd => ?_, fun _ => rfl, fun _ _ _ => rfl,
    fun vcap clearance hcap => ⟨stopDist_figure vcap clearance, permittedSpeed_figure vcap clearance hcap⟩,
    fun a v ha => stopDist_eq_ceil ha v, fun a ha => stopDist_zero ha, fun a u v huv => stopDist_mono a huv,
    fun a v ha hT hv => stopDist_le_of_ranges ha hT hv, stopDist_at_range_ends⟩
  have stops := stopDist_permittedSpeed_le ha hd
  exact ⟨permittedSpeed_le_vcap a d, stops, fun v hv hs => le_permittedSpeed hd hv hs,
    fun v hv => (Int.ofNat_le.mpr (stopDist_mono a hv)).trans stops⟩

end Sys2Proof.Machine

/-! PROOFS. The wind mean (R111): its step in whole numbers and as the rule's ceiling, the bounds of a rising, a falling and
a steady sample, and the interval of the samples as an invariant of any run of samples. -/

namespace Sys2Proof.Machine

/-! ### One step of the mean -/

/-- The fall ⌊(m - x) / d⌋ lies between 0 and m - x. -/
theorem fall_bounds {m x d : Nat} (h : x ≤ m) : 0 ≤ ((m : Int) - x) / d ∧ ((m : Int) - x) / d ≤ m - x :=
  have hdiff : 0 ≤ (m : Int) - x := by omega
  ⟨Int.ediv_nonneg hdiff d.cast_nonneg, Int.ediv_le_self _ hdiff⟩

/-- Below the sample the fall is a rise of at least 1 and at most x - m. -/
theorem rise_bounds {m x d : Nat} (hd : 0 < d) (h : m < x) :
    (m : Int) - x ≤ ((m : Int) - x) / d ∧ ((m : Int) - x) / d < 0 := by
  have hd' : (0 : Int) < d := by omega
  have hdiff : (m : Int) - x < 0 := by omega
  refine ⟨(Int.le_ediv_iff_mul_le hd').2 ?_, Int.ediv_neg_of_neg_of_pos hdiff hd'⟩
  exact mul_le_of_one_le_right hdiff.le hd'

/-- The fall never passes zero, so the truncation to a natural number loses nothing. -/
theorem nextMean_some (k m x : Nat) :
    (nextMean k (some m) x : Int) = m - ((m : Int) - x) / (2 ^ k : Nat) := by
  refine Int.toNat_of_nonneg ?_
  rcases le_or_gt x m with h | h
  · have fall := fall_bounds (d := 2 ^ k) h
    omega
  · have rise := rise_bounds (Nat.two_pow_pos k) h
    omega

theorem nextMean_eq_ceil (k m x : Nat) :
    (nextMean k (some m) x : Int) = m + ⌈((x : ℚ) - m) / 2 ^ k⌉ := by
  have step := Rat.ceil_intCast_div_natCast ((x : Int) - m) (2 ^ k)
  push_cast at step
  rw [nextMean_some, step, neg_sub, sub_eq_add_neg]
  push_cast
  rfl

theorem nextMean_rising (k : Nat) {m x : Nat} (h : m < x) :
    m + 1 ≤ nextMean k (some m) x ∧ nextMean k (some m) x ≤ x := by
  have next := nextMean_some k m x
  have rise := rise_bounds (Nat.two_pow_pos k) h
  omega

theorem nextMean_falling (k : Nat) {m x : Nat} (h : x ≤ m) :
    x ≤ nextMean k (some m) x ∧ nextMean k (some m) x ≤ m := by
  have next := nextMean_some k m x
  have fall := fall_bounds (d := 2 ^ k) h
  omega

/-- The residual: a mean less than 2^k above the sample does not fall. -/
theorem nextMean_residual {k m x : Nat} (h : x ≤ m) (hnear : m - x < 2 ^ k) : nextMean k (some m) x = m := by
  have next := nextMean_some k m x
  have still : ((m : Int) - x) / (2 ^ k : Nat) = 0 := Int.ediv_eq_zero_of_lt (by omega) (by omega)
  omega

theorem nextMean_steady (k m : Nat) : nextMean k (some m) m = m :=
  nextMean_residual le_rfl (by simp)

/-! ### The mean over a run of samples -/

@[simp] theorem advance_mean (w : WindRec) (p : Policy) (x : Nat) :
    (w.advance p x).mean = some (nextMean p.meanShift w.mean x) := rfl

/-- An interval that holds the mean, if there is one, and the sample holds the next mean. -/
theorem nextMean_mem_Icc {lo hi k x : Nat} {mean : Option Nat} (hmean : ∀ m ∈ mean, m ∈ Set.Icc lo hi)
    (hx : x ∈ Set.Icc lo hi) : nextMean k mean x ∈ Set.Icc lo hi := by
  cases mean with
  | none => exact hx
  | some m =>
    obtain ⟨hlo, hhi⟩ := hmean m rfl
    rcases le_or_gt x m with h | h
    · obtain ⟨above, below⟩ := nextMean_falling k h
      exact ⟨hx.1.trans above, below.trans hhi⟩
    · obtain ⟨above, below⟩ := nextMean_rising k h
      exact ⟨by omega, below.trans hx.2⟩

/-- A run of samples, each judged under the policy then active. -/
def WindRec.advanceAll (w : WindRec) (samples : List (Policy × Nat)) : WindRec :=
  samples.foldl (fun (v : WindRec) (q : Policy × Nat) => v.advance q.1 q.2) w

theorem advanceAll_mean_mem_Icc {lo hi : Nat} (samples : List (Policy × Nat)) (w : WindRec)
    (hmean : ∀ m ∈ w.mean, m ∈ Set.Icc lo hi) (hsamples : ∀ q ∈ samples, q.2 ∈ Set.Icc lo hi) :
    ∀ m ∈ (w.advanceAll samples).mean, m ∈ Set.Icc lo hi := by
  induction samples generalizing w with
  | nil => exact hmean
  | cons q qs ih =>
    obtain ⟨hq, hqs⟩ := List.forall_mem_cons.1 hsamples
    refine ih (w.advance q.1 q.2) (fun m hm => ?_) hqs
    obtain rfl := Option.some.inj hm
    exact nextMean_mem_Icc hmean hq

theorem advanceAll_mean_isSome (w : WindRec) {samples : List (Policy × Nat)} (hne : samples ≠ []) :
    ∃ m, (w.advanceAll samples).mean = some m := by
  obtain ⟨earlier, q, rfl⟩ := samples.eq_nil_or_concat'.resolve_left hne
  simp [WindRec.advanceAll]

/-- From an absent mean the interval from the smallest to the largest sample holds every later mean. -/
theorem advanceAll_mean_between {w : WindRec} {samples : List (Policy × Nat)} (habsent : w.mean = none)
    (hne : samples ≠ []) {m : Nat} (hm : (w.advanceAll samples).mean = some m) :
    (∃ q ∈ samples, q.2 ≤ m) ∧ ∃ q ∈ samples, m ≤ q.2 := by
  have hnonempty : samples.toFinset.Nonempty := List.toFinset_nonempty_iff _ |>.2 hne
  obtain ⟨least, hleast, hlo⟩ := samples.toFinset.exists_min_image Prod.snd hnonempty
  obtain ⟨most, hmost, hhi⟩ := samples.toFinset.exists_max_image Prod.snd hnonempty
  simp only [List.mem_toFinset] at hleast hlo hmost hhi
  have within : m ∈ Set.Icc least.2 most.2 :=
    advanceAll_mean_mem_Icc samples w (by simp [habsent]) (fun q hq => ⟨hlo q hq, hhi q hq⟩) m hm
  exact ⟨⟨least, hleast, within.1⟩, most, hmost, within.2⟩

/-- Settles O53: the step of the mean by the side of the sample, and the samples' interval as invariant of the run. -/
theorem meanFollowsTheWind : Obligations.MeanFollowsTheWind := by
  refine ⟨fun w p x => ⟨_, advance_mean w p x, fun habsent => by rw [habsent, nextMean], fun m hm => ?_⟩,
    fun w samples hne habsent => ?_⟩
  · rw [hm]
    refine ⟨nextMean_eq_ceil _ m x, nextMean_rising _, fun h => nextMean_falling _ h.le, nextMean_residual, ?_⟩
    rintro rfl
    exact nextMean_steady _ x
  · obtain ⟨m, hm⟩ := advanceAll_mean_isSome w hne
    exact ⟨m, hm, advanceAll_mean_between habsent hne hm⟩

end Sys2Proof.Machine

/-! PROOFS. Reports lost from a full queue (R155, R156): what a full queue does with an offer, and what becomes of the
pending-overflow count when the head leaves at a pace expiry (R157). -/

namespace Sys2Proof.Machine

/-! ### A full queue (R155 step 5) -/

theorem any_matches_eq_false {queue : List Report} {o : Offer}
    (hapart : ∀ e ∈ queue, ¬(e.kind = o.kind ∧ e.crane = o.crane)) : queue.any (·.matches o) = false :=
  List.any_eq_false.2 fun e he => by simpa [Report.matches] using hapart e he

theorem offer_of_full {o : Offer} {s : State} (hpass : passes s.recorder.settings o = true)
    (hfull : 32 ≤ s.recorder.queue.length)
    (hapart : ∀ e ∈ s.recorder.queue, ¬(e.kind = o.kind ∧ e.crane = o.crane)) :
    offer o s = s.setRecorder { s.recorder with overflow := min 65535 (s.recorder.overflow + 1) } := by
  rw [offer, if_pos hpass, any_matches_eq_false hapart, if_neg Bool.false_ne_true, if_neg (Nat.not_lt.2 hfull)]

/-! ### The pending-overflow count at a departure (R156) -/

/-- The QUEUE_OVERFLOW entry made for `lost` reports (R156). -/
def Report.ofLost (lost : Nat) (now : Stamp) : Report :=
  { kind := .queueOverflow, crane := none, zone := none, booking := none, value := lost, count := 1,
    first := now, last := now }

/-- An entry when `lost` reports join it (R156). -/
def Report.addLost (q : Report) (lost : Nat) (now : Stamp) : Report :=
  { q with value := min 65535 (q.value + lost), count := min 255 (q.count + 1), last := now }

/-- What becomes of an entry of the queue when `lost` reports join its QUEUE_OVERFLOW entry (R156). -/
def Report.takeLost (lost : Nat) (now : Stamp) (q : Report) : Report :=
  if q.kind = .queueOverflow then q.addLost lost now else q

theorem noteOverflow_overflow (s : State) : (noteOverflow s).recorder.overflow = 0 := by
  unfold noteOverflow
  dsimp only
  split
  · assumption
  · rfl

theorem noteOverflow_stamp (s : State) : (noteOverflow s).stamp = s.stamp := by
  rw [noteOverflow_eq]
  rfl

theorem noteOverflow_queue_of_none {s : State} (hlost : s.recorder.overflow ≠ 0)
    (hnone : ∀ q ∈ s.recorder.queue, q.kind ≠ .queueOverflow) :
    (noteOverflow s).recorder.queue = .ofLost s.recorder.overflow s.stamp :: s.recorder.queue := by
  have habsent : s.recorder.queue.any (fun q => q.kind == .queueOverflow) = false :=
    List.any_eq_false.2 fun q hq => by simpa using hnone q hq
  rw [noteOverflow, if_neg hlost, habsent]
  rfl

/-- The merge runs over the whole queue; entries of other kinds pass it as they are. -/
theorem noteOverflow_queue_of_split {s : State} {before after : List Report} {q : Report}
    (hlost : s.recorder.overflow ≠ 0) (hqueue : s.recorder.queue = before ++ q :: after)
    (hkind : q.kind = .queueOverflow) (hothers : ∀ x ∈ before ++ after, x.kind ≠ .queueOverflow) :
    (noteOverflow s).recorder.queue = before ++ q.addLost s.recorder.overflow s.stamp :: after := by
  have hpresent : s.recorder.queue.any (fun q => q.kind == .queueOverflow) = true :=
    List.any_eq_true.2 ⟨q, by simp [hqueue], by simp [hkind]⟩
  have hkept : ∀ part ⊆ before ++ after, part.map (Report.takeLost s.recorder.overflow s.stamp) = part :=
    fun part hpart => (List.map_congr_left fun x hx => if_neg (hothers x (hpart hx))).trans part.map_id
  rw [noteOverflow, if_neg hlost, hpresent]
  calc s.recorder.queue.map (Report.takeLost s.recorder.overflow s.stamp)
    _ = before.map _ ++ Report.takeLost _ _ q :: after.map _ := by rw [hqueue, List.map_append, List.map_cons]
    _ = before ++ q.addLost s.recorder.overflow s.stamp :: after := by
      rw [hkept before (List.subset_append_left ..), hkept after (List.subset_append_right ..), Report.takeLost,
        if_pos hkind]

/-! ### A pace expiry -/

/-- The state once the pace timer has expired and runs again, the queue still whole (R157). -/
def State.paced (s : State) : State :=
  (s.waitUntil s.recorder.paceTimer).setRecorder
    { s.recorder with paceTimer := s.recorder.paceTimer + pacePeriod s.recorder.settings.pace }

/-- The state once the head has left the queue at a pace expiry, before the frame is sent (R157). -/
def State.departed (s : State) (rest : List Report) : State :=
  s.paced.setRecorder { s.paced.recorder with queue := rest }

theorem exec_paceTimerExpiry (s : State) : exec .paceTimerExpiry s = .next (sendHead s.paced) := rfl

theorem exec_paceTimerExpiry_of_cons {e : Report} {rest : List Report} {s : State}
    (hqueue : s.recorder.queue = e :: rest) :
    exec .paceTimerExpiry s = .next (send .s (reportBytes e) (noteOverflow (s.departed rest))) := by
  have hpaced : s.paced.recorder.queue = e :: rest := hqueue
  rw [exec_paceTimerExpiry, sendHead, hpaced]
  rfl

/-- Settles O18: the full queue's case of `offer`, and the two cases of `noteOverflow` in the state a departure leaves. -/
theorem queueOverflowIsCountedAndReported : Obligations.QueueOverflowIsCountedAndReported := by
  refine ⟨fun o s hpass hfull hapart => ?_, fun e rest s hqueue hlost => ?_⟩
  · rw [offer_of_full hpass hfull.ge hapart, State.setRecorder_recorder]
  · refine ⟨_, exec_paceTimerExpiry_of_cons hqueue, noteOverflow_overflow _, fun hnone => ?_,
      fun before q after hrest hkind hothers => ?_⟩
    · have hqueued := noteOverflow_queue_of_none (s := s.departed rest) hlost hnone
      rwa [← noteOverflow_stamp] at hqueued
    · have hqueued := noteOverflow_queue_of_split (s := s.departed rest) hlost hrest hkind hothers
      rwa [← noteOverflow_stamp] at hqueued

end Sys2Proof.Machine

/-! PROOFS. What a judged request may touch, said once for all of them: no request sends a frame by its effect, every request
keeps a sound recorder sound, and each leaves alone the parts its kind does not name (R161 to R170). -/

namespace Sys2Proof.Machine

set_option Elab.async false

/-! ### Frames whatever becomes of mode, time and queue -/

/-- The blocks of `s` under the mode, the time, the bytes in progress and the queue of `t`. -/
def State.beneath (s t : State) : State :=
  { s with mode := t.mode, now := t.now, clock := t.clock, line := t.line, pending := t.pending, freeCount := t.freeCount }

/-- From `s` to `t` only the blocks that `w` names changed, whatever became of mode, time, bytes in progress and queue. -/
def Touches (w : Touch) (s t : State) : Prop := Within w (s.beneath t) t

theorem Within.touches {w : Touch} {s t : State} (h : Within w s t) : Touches w s t :=
  { h with mode := rfl, now := rfl, clock := rfl, line := rfl, pending := rfl, freeCount := rfl }

theorem Touches.then {a c : Touch} {s t u : State} (h : Touches a s t) (h' : Touches c t u)
    (hac : a.le c = true := by rfl) : Touches c s u :=
  Within.then (s := s.beneath u) (t := t.beneath u)
    { h with mode := rfl, now := rfl, clock := rfl, line := rfl, pending := rfl, freeCount := rfl } h' hac

theorem Touches.mono {a c : Touch} {s t : State} (h : Touches a s t) (hac : a.le c = true := by rfl) : Touches c s t :=
  Within.mono h hac

/-- The expiries SET SITE TIME takes touch what one expiry touches. -/
theorem takeDues_touches (t fuel : Nat) (s : State) : Touches Touch.due s (takeDues t fuel s) := by
  induction fuel generalizing s with
  | zero => exact (Within.refl _ _).touches
  | succ fuel ih =>
    rw [takeDues]
    split
    · exact (Within.refl _ _).touches
    · have counted : Touches Touch.due s { s with freeCount := s.freeCount + 1 } := Within.refl _ _
      exact (counted.then (takeSiteDue_within _ _).touches).then (ih _)

theorem setSiteTime_touches (tgt : Target) (t : Nat) (s : State) : Touches Touch.due s (setSiteTime tgt t s).2 := by
  have clocked (u : State) (c : Clock) : Touches Touch.due u { u with clock := c } := Within.refl _ _
  unfold setSiteTime
  split
  · exact (Within.refl _ _).touches
  · refine Touches.then (a := Touch.due) ?_ (clocked _ _)
    split
    · exact takeDues_touches _ _ _
    · exact (Within.refl _ _).touches

theorem startOperating_touches (s : State) : Touches Touch.commence s (startOperating s) :=
  Touches.then (a := Touch.commence) (t := { s with mode := .operating }) (Within.refl _ _)
    (startOperating_within s).touches

theorem commence_touches (tgt : Target) (s : State) : Touches Touch.commence s (commence tgt s).2 := by
  unfold commence
  split
  · exact (Within.refl _ _).touches
  split
  · exact (Within.refl _ _).touches
  split
  · exact (Within.refl _ _).touches
  · dsimp only
    exact startOperating_touches s

/-- The frame of SITE RESET: everything but the frames sent. -/
abbrev Touch.reset : Touch :=
  { lanes := true, poses := true, site := true, air := true, access := true, gov := true, winds := true, vanes := true,
    bookings := true, mgmt := true, counters := true, recorder := true }

theorem siteReset_touches (tgt : Target) (s : State) : Touches Touch.reset s (siteReset tgt s).2 := by
  have blocks : Touches Touch.reset s (resetBlocks (resetSite s)) := by
    constructor <;> first | rfl | exact Noted.refl _ _ | (intro h; first | (cases h; done) | rfl)
  unfold siteReset
  split
  · exact (Within.refl _ _).touches
  · have suspended := foldl_within (w := Touch.reset) (fun t k => (suspend_within k .reset t).mono) allCranes
      (resetBlocks (resetSite s))
    exact (blocks.then suspended.touches).then (resetRecorder_within _).touches.mono

/-! ### The frame of each request -/

/-- What the effect of a request may touch; nothing for a command that is no request. -/
def requestTouch : Instr → Touch
  | .loadSegment _ _ _ _ => { site := true }
  | .commit _ _ _ => Touch.commit
  | .commence _ _ => Touch.commence
  | .siteReset _ _ => Touch.reset
  | .craneRestart _ _ => Touch.restart
  | .setSiteTime _ _ _ => Touch.due
  | .haltCrane _ _ => { lanes := true, air := true, vanes := true, bookings := true }
  | .releaseCrane _ _ => { lanes := true, air := true, vanes := true, bookings := true }
  | .resumeCrane _ _ => { air := true, vanes := true, bookings := true }
  | .forceReleaseZone _ _ => { air := true, vanes := true }
  | .setZonePermissions _ _ _ _ _ => Touch.permission
  | .grantAccess _ _ _ _ _ => Touch.permission
  | .revokeAccess _ _ _ => Touch.permission
  | .bookLift _ _ _ => { bookings := true }
  | .cancelBooking _ _ => { air := true, vanes := true, bookings := true }
  | .retireBooking _ _ => { bookings := true }
  | .snapshotCounters _ _ => Touch.transfer
  | .setReporting _ _ _ => { recorder := true }
  | _ => {}

/-- A judged request touches what its kind may touch. -/
theorem judged_touches {i : Instr} {s : State} {j : Judged} (hj : judgeRequest i s = some j) :
    Touches (requestTouch i) s j.after := by
  cases i with
  | loadSegment tag tgt seg content => cases hj; exact (loadSegment_within tgt seg content s).touches
  | commit tag tgt set => cases hj; exact (commit_within tag tgt set s).touches
  | commence tag tgt => cases hj; exact commence_touches tgt s
  | siteReset tag tgt => cases hj; exact siteReset_touches tgt s
  | craneRestart tag tgt => cases hj; exact (craneRestart_within tgt s).touches
  | setSiteTime tag tgt t => cases hj; exact setSiteTime_touches tgt t s
  | haltCrane tag tgt => cases hj; exact (haltCrane_within tgt s).touches.mono
  | releaseCrane tag tgt => cases hj; exact (releaseCrane_within tgt s).touches.mono
  | resumeCrane tag tgt => cases hj; exact (resumeCrane_within tgt s).touches.mono
  | forceReleaseZone tag tgt => cases hj; exact (forceReleaseZone_within tgt s).touches.mono
  | setZonePermissions tag tgt mode p e => cases hj; exact (setZonePermissions_within tgt mode p e s).touches
  | grantAccess tag tgt z u e => cases hj; exact (grantAccess_within tgt z u e s).touches
  | revokeAccess tag tgt z => cases hj; exact (revokeAccess_within tgt z s).touches
  | bookLift tag tgt p => cases hj; exact (bookLift_within tgt p s).touches.mono
  | cancelBooking tag tgt => cases hj; exact (cancelBooking_within tgt s).touches.mono
  | retireBooking tag tgt => cases hj; exact (retireBooking_within tgt s).touches.mono
  | readCapture tag tgt part => cases hj; exact (readCapture_within tgt part s).touches
  | snapshotCounters tag tgt => cases hj; exact (snapshotCounters_within tgt s).touches
  | setReporting tag tgt c => cases hj; exact (setReporting_within tgt c s).touches
  | triggerCapture tag tgt => cases hj; exact (triggerCapture_within tgt s).touches.mono
  | readCrane | readZone | readBooking | readCounters => cases hj; exact (Within.refl _ _).touches
  | _ => cases hj

/-- No request sends a frame by its effect (R161). -/
theorem requestTouch_sent (i : Instr) : (requestTouch i).sent = false := by cases i <;> rfl

theorem judged_sent {i : Instr} {s : State} {j : Judged} (hj : judgeRequest i s = some j) : j.after.sent = s.sent :=
  (judged_touches hj).sent (requestTouch_sent i)

theorem judged_recorder_sound {i : Instr} {s : State} {j : Judged} (hj : judgeRequest i s = some j)
    (hs : s.recorder.Sound) : j.after.recorder.Sound :=
  (judged_touches hj).recorder.sound hs

/-! ### The recorder (R152, R155, R156, R159) -/

theorem recorder_reset_sound : Recorder.reset.Sound := by
  refine ⟨fun k i => ⟨?_, ?_⟩, Nat.zero_le _, List.Pairwise.nil, nofun, Nat.zero_le _, Nat.zero_le _⟩
  · simp [Recorder.reset, Counter.zero]
  · simp [Recorder.reset, CounterReport.reset, Counter.zero]

theorem Recorder.Sound.within {w : Touch} {s t : State} (hs : s.recorder.Sound) (h : Within w s t) : t.recorder.Sound :=
  h.recorder.sound hs

theorem recorderSound_closed : StepClosed (fun s => s.recorder.Sound) where
  outer _ _ _ _ _ _ hs := hs
  powerOn _ _ _ _ _ _ := recorder_reset_sound
  pose k f s hs := hs.within (acceptPose_within k f s)
  demand k f s hs := hs.within (acceptDemand_within k f s)
  rejected k s hs := hs.within (count_within k .frameErrors 1 s)
  assembly _ _ hs := hs
  judged _ _ _ hj hs := judged_recorder_sound hj hs
  answer q tag rs hs := hs.within (answer_within q tag rs)
  answerRead q tag rs hs := hs.within (answerRead_within q tag rs)
  unknown _ _ s hs := hs.within (send_within _ _ s)
  stale k s hs _ := hs.within (becomeStale_within k s)
  lost k s hs _ := hs.within (becomeLost_within k s)
  silent k s hs _ := hs.within (becomeSilent_within k s)
  limit z s hs := hs.within (markVacate_within z .holdLimit s)
  blocked k s hs _ := hs.within (blockPreparation_within k s)
  paced t s hs := Recorder.Sound.within (s := s.setRecorder { s.recorder with paceTimer := t }) hs (sendHead_within _)
  transfer t s hs :=
    Recorder.Sound.within (s := s.setRecorder { s.recorder with transferTimer := t }) hs (transferAll_within _)
  override z s hs := hs.within (expireOverride_within z s)
  grant g s hs := hs.within (expireGrant_within g s)
  opened id _ s hs _ _ := hs.within (openWindow_within id s)
  closed _ b s hs _ := hs.within (closeWindow_within b s)

/-- Settles O8: every operation of a step changes the recorder as reports, counts, captures and transfers do. -/
theorem stepKeepsRecorderSound : Obligations.StepKeepsRecorderSound :=
  fun s t hs ht => step_keeps recorderSound_closed s t ht hs

end Sys2Proof.Machine

/-! PROOFS. The frames the coordinator sends: thirty bytes with their check value behind them (R24, R171), and the train of a
read, which carries its data whole (R174). -/

namespace Sys2Proof.Machine

set_option Elab.async false

/-! ### Fields and check value -/

@[simp] theorem be2_length (n : Nat) : (be2 n).length = 2 := rfl
@[simp] theorem be4_length (n : Nat) : (be4 n).length = 4 := rfl
@[simp] theorem be6_length (n : Nat) : (be6 n).length = 6 := rfl

theorem readBe_be2 {n : Nat} (h : n < 65536) : readBe (be2 n) = n := by
  simp [readBe, be2, byte]
  omega

@[simp] theorem padTo_length (n : Nat) (bs : List Byte) : (padTo n bs).length = n := by
  simp [padTo]

theorem unsignedAt_cons_zero (b : Byte) (bs : List Byte) : unsignedAt (b :: bs) 0 1 = b.toNat := by
  simp [unsignedAt, fieldAt, readBe]

theorem sealFrame_length {bs : List Byte} (h : bs.length = 30) : (sealFrame bs).length = 32 := by
  simp [sealFrame, h]

theorem fieldAt_sealFrame {bs : List Byte} {i n : Nat} (h : i + n ≤ bs.length) :
    fieldAt (sealFrame bs) i n = fieldAt bs i n := by
  rw [fieldAt, sealFrame, List.drop_append_of_le_length (by omega), List.take_append_of_le_length (by simp; omega),
    fieldAt]

/-- Thirty bytes with a type of the port make, with their check value, a sound frame. -/
theorem sealFrame_sound {p : Port} {bs : List Byte} (hlen : bs.length = 30)
    (htype : sendsType p (unsignedAt bs 0 1) = true) : Sent.Sound ⟨p, sealFrame bs⟩ := by
  refine ⟨sealFrame_length hlen, ?_, ?_⟩
  · have checked : readBe ((sealFrame bs).drop 30) = (checkValue bs).toNat := by
      rw [sealFrame, List.drop_left' hlen, readBe_be2 (checkValue bs).isLt]
    rw [checked, sealFrame, List.take_left' hlen]
  · rwa [unsignedAt, fieldAt_sealFrame (by omega)]

/-! ### The frames that are sent -/

@[simp] theorem statusField_length (s : State) (k : Crane) : (statusField s k).length = 11 := by
  simp [statusField]

theorem forwardedPose_length (s : State) (k : Crane) (p : Pose) (flags : Nat) :
    (forwardedPose s k p flags).length = 30 := by
  simp [forwardedPose]

theorem outDemand_length (k : Crane) (v : PerAxis Int) (c : PerAxis Bool) (r : ReasonFlags) (sub brake : Bool) (seq : Nat) :
    (outDemand k v c r sub brake seq).length = 30 := by
  simp [outDemand]

theorem reportBytes_length (e : Report) : (reportBytes e).length = 30 := by
  simp [reportBytes, stampBytes]

@[simp] theorem replyHead_length (r : Reply) : (replyHead r).length = 5 := by
  cases r <;> rfl

theorem responseBytes_length (kind tag : Byte) (r : Reply) : (responseBytes kind tag r).length = 30 := by
  simp [responseBytes]

theorem readBytes_length (kind tag : Byte) (r : Reply) (i : Nat) : (readBytes kind tag r i).length = 30 := by
  simp [readBytes]

theorem forwardedPose_sound (s : State) (k : Crane) (p : Pose) (flags : Nat) :
    Sent.Sound ⟨.c k, sealFrame (forwardedPose s k p flags)⟩ := by
  have typed : unsignedAt (forwardedPose s k p flags) 0 1 = poseType := by
    simp [forwardedPose, unsignedAt_cons_zero, byte, poseType]
  exact sealFrame_sound (forwardedPose_length ..) (by rw [typed]; rfl)

theorem outDemand_sound (k : Crane) (v : PerAxis Int) (c : PerAxis Bool) (r : ReasonFlags) (sub brake : Bool) (seq : Nat) :
    Sent.Sound ⟨.d k, sealFrame (outDemand k v c r sub brake seq)⟩ :=
  sealFrame_sound (outDemand_length ..) rfl

theorem reportBytes_sound (e : Report) : Sent.Sound ⟨.s, sealFrame (reportBytes e)⟩ :=
  sealFrame_sound (reportBytes_length e) rfl

theorem responseBytes_sound (kind tag : Byte) (r : Reply) : Sent.Sound ⟨.s, sealFrame (responseBytes kind tag r)⟩ :=
  sealFrame_sound (responseBytes_length ..) rfl

theorem readBytes_sound (kind tag : Byte) (r : Reply) (i : Nat) : Sent.Sound ⟨.s, sealFrame (readBytes kind tag r i)⟩ :=
  sealFrame_sound (readBytes_length ..) rfl

/-! ### What each operation sends -/

/-- Every frame sent so far is sound (R24, R171). -/
def SentSound (s : State) : Prop := ∀ f ∈ s.sent, f.Sound

theorem SentSound.within {w : Touch} {s t : State} (hs : SentSound s) (h : Within w s t) (hw : w.sent = false := by rfl) :
    SentSound t := by
  unfold SentSound
  rw [h.sent hw]
  exact hs

theorem SentSound.append {s t : State} {fs : List Sent} (hs : SentSound s) (ht : t.sent = s.sent ++ fs)
    (hfs : ∀ f ∈ fs, f.Sound) : SentSound t := by
  intro f hf
  rw [ht, List.mem_append] at hf
  exact hf.elim (hs f) (hfs f)

theorem SentSound.send {s : State} (hs : SentSound s) {p : Port} {bs : List Byte} (h : Sent.Sound ⟨p, sealFrame bs⟩) :
    SentSound (send p bs s) :=
  hs.append rfl fun f hf => by rw [List.mem_singleton.1 hf]; exact h

theorem SentSound.sendDemand {s : State} (hs : SentSound s) (k : Crane) (v : PerAxis Int) (c : PerAxis Bool) (r : ReasonFlags)
    (sub : Bool) : SentSound (sendDemand k v c r sub s) :=
  hs.append (sendDemand_sent k v c r sub s) fun f hf => by rw [List.mem_singleton.1 hf]; exact outDemand_sound ..

theorem SentSound.forwardPose {s : State} (hs : SentSound s) (k : Crane) (flags : Nat) :
    SentSound (forwardPose k flags s) := by
  unfold Machine.forwardPose
  split
  · exact hs
  · exact hs.send (forwardedPose_sound ..)

theorem SentSound.substituteStop {s : State} (hs : SentSound s) (k : Crane) : SentSound (substituteStop k s) := by
  unfold Machine.substituteStop
  split
  · exact (hs.sendDemand k _ _ _ _).within (count_within _ _ _ _)
  · exact hs

theorem SentSound.acceptPose {s : State} (hs : SentSound s) (k : Crane) (f : List Byte) : SentSound (acceptPose k f s) := by
  have judged : SentSound (judgedPose k f s) := by
    unfold SentSound
    rw [judgedPose_sent]
    exact hs
  rw [acceptPose_eq]
  exact (judged.forwardPose k _).substituteStop k

theorem SentSound.acceptDemand {s : State} (hs : SentSound s) (k : Crane) (f : List Byte) :
    SentSound (acceptDemand k f s) := by
  have stepped : SentSound (stepOnDemand k (demandIn f) (cabStep k s)) :=
    (hs.within (cabStep_within k s)).within (stepOnDemand_within _ _ _)
  have governed := stepped.within (govern_within k (demandIn f).speed _)
  exact (governed.sendDemand k _ _ _ _).within (reloadTimer_within _ _ _)

theorem answer_sent (q : Req) (tag : Byte) (rs : Reply × State) :
    (answer q tag rs).sent = rs.2.sent ++ [responseFrame q tag rs.1] := rfl

theorem foldl_send_sent (p : Port) (g : Nat → List Byte) (l : List Nat) (s : State) :
    (l.foldl (fun s i => send p (g i) s) s).sent = s.sent ++ l.map fun i => ⟨p, sealFrame (g i)⟩ := by
  induction l generalizing s with
  | nil => simp
  | cons i l ih => rw [List.foldl_cons, ih, send, List.map_cons, List.append_assoc, List.singleton_append]

theorem answerRead_sent (q : Req) (tag : Byte) (rs : Reply × State) :
    (answerRead q tag rs).sent = rs.2.sent ++ responseTrain q tag rs.1 := by
  rw [answerRead, foldl_send_sent, responseTrain]

theorem SentSound.sendHead {s : State} (hs : SentSound s) : SentSound (sendHead s) := by
  unfold Machine.sendHead
  split
  · exact hs
  · rename_i e es _
    have noted : SentSound (noteOverflow (s.setRecorder { s.recorder with queue := es })) := by
      rw [noteOverflow_eq]
      exact hs
    exact noted.send (reportBytes_sound e)

theorem sentSound_closed : StepClosed SentSound where
  outer _ _ _ _ _ _ hs := hs
  powerOn _ _ _ s hs h := by subst h; exact hs
  pose k f _ hs := hs.acceptPose k f
  demand k f _ hs := hs.acceptDemand k f
  rejected _ _ hs := hs.within (count_within _ _ _ _)
  assembly _ _ hs := hs
  judged _ _ _ hj hs := by
    unfold SentSound
    rw [judged_sent hj]
    exact hs
  answer q tag rs hs := hs.append (answer_sent q tag rs) fun f hf => by
    rw [List.mem_singleton.1 hf]
    exact responseBytes_sound ..
  answerRead q tag rs hs := hs.append (answerRead_sent q tag rs) fun f hf => by
    obtain ⟨i, _, rfl⟩ := List.mem_map.1 hf
    exact readBytes_sound ..
  unknown _ _ _ hs := hs.send (responseBytes_sound ..)
  stale k s hs _ := hs.within (becomeStale_within k s)
  lost k s hs _ := hs.within (becomeLost_within k s)
  silent k s hs _ := hs.within (becomeSilent_within k s)
  limit z s hs := hs.within (markVacate_within z .holdLimit s)
  blocked k s hs _ := hs.within (blockPreparation_within k s)
  paced t s hs := SentSound.sendHead (s := s.setRecorder { s.recorder with paceTimer := t }) hs
  transfer t s hs :=
    SentSound.within (s := s.setRecorder { s.recorder with transferTimer := t }) hs (transferAll_within _)
  override z s hs := hs.within (expireOverride_within z s)
  grant g s hs := hs.within (expireGrant_within g s)
  opened id _ s hs _ _ := hs.within (openWindow_within id s)
  closed _ b s hs _ := hs.within (closeWindow_within b s)

/-- Settles O13: the five kinds of frame are thirty bytes with a type of their port, and nothing else is sent. -/
theorem stepKeepsSentFramesSound : Obligations.StepKeepsSentFramesSound :=
  fun s t hs ht => step_keeps sentSound_closed s t ht hs

/-! ### The train of a read (R174) -/

theorem padTo_eq (n : Nat) (bs : List Byte) : padTo n bs = bs.take n ++ List.replicate (n - bs.length) 0#8 := by
  rw [padTo, List.take_append, List.take_replicate, Nat.min_eq_left (Nat.sub_le _ _)]
  rfl

/-- Pieces of equal size, the last filled with zeros, carry the whole list. -/
theorem flatMap_padTo_drop (m n : Nat) (bs : List Byte) (h : bs.length ≤ m * n) :
    (List.range n).flatMap (fun i => padTo m (bs.drop (m * i))) = bs ++ List.replicate (m * n - bs.length) 0#8 := by
  induction n generalizing bs with
  | zero => simp [List.eq_nil_of_length_eq_zero (Nat.le_zero.1 h)]
  | succ n ih =>
    have rest := ih (bs.drop m) (by rw [List.length_drop, Nat.mul_succ] at *; omega)
    have shift : ∀ i, (bs.drop m).drop (m * i) = bs.drop (m * (i + 1)) := fun i => by
      rw [List.drop_drop, Nat.mul_succ, Nat.add_comm]
    simp only [shift, List.length_drop] at rest
    rw [List.range_succ_eq_map, List.flatMap_cons, List.flatMap_map]
    simp only [Nat.succ_eq_add_one, rest, Nat.mul_zero, List.drop_zero]
    rw [padTo_eq]
    rcases Nat.le_total bs.length m with short | long
    · rw [List.take_of_length_le short, List.drop_of_length_le short, List.nil_append, List.append_assoc,
        ← List.replicate_add, Nat.mul_succ]
      congr 2
      omega
    · rw [Nat.sub_eq_zero_of_le long, List.replicate_zero, List.append_nil, ← List.append_assoc, List.take_append_drop,
        Nat.mul_succ]
      congr 2
      omega

theorem le_trainLength (data : List Byte) : data.length ≤ 21 * trainLength data := by
  unfold trainLength ceilDiv
  omega

theorem responseTrain_length (q : Req) (tag : Byte) (r : Reply) : (responseTrain q tag r).length = trainLength r.data := by
  simp [responseTrain]

theorem fieldAt_readBytes (kind tag : Byte) (r : Reply) (i : Nat) :
    fieldAt (sealFrame (readBytes kind tag r i)) 9 21 = padTo 21 (r.data.drop (21 * i)) := by
  rw [fieldAt_sealFrame (by rw [readBytes_length]), fieldAt, readBytes, List.drop_left' (by simp),
    List.take_of_length_le (by simp)]

/-- The data of a train, its frames put together, is the data of the reply and zeros behind it. -/
theorem responseTrain_data (q : Req) (tag : Byte) (r : Reply) :
    (responseTrain q tag r).flatMap (fun f => fieldAt f.bytes 9 21)
      = r.data ++ List.replicate (21 * trainLength r.data - r.data.length) 0#8 := by
  rw [responseTrain, List.flatMap_map]
  simp only [fieldAt_readBytes]
  exact flatMap_padTo_drop 21 _ _ (le_trainLength _)

/-- Bytes 0 to 8 of a frame of a train (Figure 11-7, R174). -/
theorem readBytes_head (kind tag : Byte) (r : Reply) (i : Nat) :
    let bs := sealFrame (readBytes kind tag r i)
    bs[0]? = some 4#8 ∧ bs[1]? = some kind ∧ bs[2]? = some tag ∧ fieldAt bs 3 5 = replyHead r
      ∧ bs[8]? = some (byte (i % 32 + if i + 1 = trainLength r.data then 128 else 0)) := by
  cases r <;> exact ⟨rfl, rfl, rfl, rfl, rfl⟩

/-- Settles O4: the frames of a train are `readBytes` in order, their data the pieces of `flatMap_padTo_drop`. -/
theorem readTrainCarriesItsData : Obligations.ReadTrainCarriesItsData := by
  refine fun q tag r => ⟨?_, ⟨_, responseTrain_data q tag r⟩, fun i hi => ?_⟩
  · rw [responseTrain_length]
    rfl
  · rw [responseTrain_length] at hi
    obtain ⟨h0, h1, h2, h3, h8⟩ := readBytes_head (byte (reqCode q)) tag r i
    refine ⟨⟨.s, sealFrame (readBytes (byte (reqCode q)) tag r i)⟩, ?_, rfl, sealFrame_length (readBytes_length ..), h0, h1,
      h2, h3, ?_⟩
    · simp [responseTrain, hi]
    · rw [responseTrain_length]
      exact h8

end Sys2Proof.Machine

/-! PROOFS. The access grant table (R72, R73): every operation that does not store an entry leaves a sublist of the entries, and
storing one keeps the table sound. -/

namespace Sys2Proof.Machine

set_option Elab.async false

/-! ### Entries that go -/

/-- No entry of the grant table is new in `t`, and the entries keep their order. -/
def GrantsShrink (s t : State) : Prop := t.access.grants.Sublist s.access.grants

theorem Within.grantsShrink {w : Touch} {s t : State} (h : Within w s t) (hw : w.access = false := by rfl) :
    GrantsShrink s t := by
  unfold GrantsShrink
  rw [h.access hw]

theorem GrantsShrink.trans {s t u : State} (h : GrantsShrink s t) (h' : GrantsShrink t u) : GrantsShrink s u :=
  List.Sublist.trans h' h

theorem GrantsShrink.ite {s t u : State} {p : Prop} [Decidable p] (ht : GrantsShrink s t) (hu : GrantsShrink s u) :
    GrantsShrink s (if p then t else u) := by
  split
  · exact ht
  · exact hu

theorem alignPerm_grantsShrink (old : Option ZoneTable) (s : State) (z : Zone) : GrantsShrink s (alignPerm old s z) := by
  unfold alignPerm
  refine .ite (.ite ?_ ?_) ?_
  · exact List.Sublist.refl _
  · exact List.Sublist.refl s.access.grants
  · exact List.filter_sublist

theorem foldl_grantsShrink {α : Type} {f : State → α → State} (h : ∀ s a, GrantsShrink s (f s a)) (l : List α) (s : State) :
    GrantsShrink s (l.foldl f s) := by
  induction l generalizing s with
  | nil => exact List.Sublist.refl _
  | cons a l ih => exact (h s a).trans (ih _)

theorem applyZoneTable_grantsShrink (t : ZoneTable) (s : State) : GrantsShrink s (applyZoneTable t s) := by
  have aligned := foldl_grantsShrink (alignPerm_grantsShrink s.site.zoneTable) allZones
    (s.setSite { s.site with zoneTable := some t, zoneStaging := Vector.replicate 4 none })
  exact (aligned.trans (reexamine_within _ _).grantsShrink).trans
    (foldl_within (fun s z => judgeLimit_within z s) _ _).grantsShrink

theorem commit_grantsShrink (tag : Byte) (tgt : Target) (set : Byte) (s : State) :
    GrantsShrink s (commit tag tgt set s).2 := by
  have stays : GrantsShrink s s := List.Sublist.refl _
  unfold commit
  split
  · unfold commitForSite commitZoneTable
    split
    · exact stays
    · split
      · exact stays
      split
      · exact stays
      split
      · exact stays
      · dsimp only
        exact applyZoneTable_grantsShrink _ s
    all_goals exact stays
  split
  · exact stays
  · unfold commitForCrane
    split
    · exact stays
    · exact stays
    · exact (commitPolicy_within _ _ _).grantsShrink
    · exact (commitStructural_within _ _ _ _ _ _).grantsShrink

theorem expireOverride_grantsShrink (z : Zone) (s : State) : GrantsShrink s (expireOverride z s) := by
  have reverted : GrantsShrink s (revertPerm z s) := List.Sublist.refl _
  exact (reverted.trans (offer_within _ _).grantsShrink).trans (reexamine_within _ _).grantsShrink

theorem expireGrant_grantsShrink (g : Grant) (s : State) : GrantsShrink s (expireGrant g s) := by
  have removed : GrantsShrink s (s.setGrants (withoutGrant s.access.grants g.crane g.zone)) := List.filter_sublist
  exact (removed.trans (offer_within _ _).grantsShrink).trans (reexamine_within _ _).grantsShrink

theorem takeSiteDue_grantsShrink (s : State) (d : SiteDue) : GrantsShrink s (takeSiteDue s d) := by
  cases d with
  | override z => exact expireOverride_grantsShrink z s
  | grant k z =>
    unfold takeSiteDue
    dsimp only
    split
    · exact List.Sublist.refl _
    · exact expireGrant_grantsShrink _ s
  | windowOpen id => exact (openWindow_within id s).grantsShrink
  | windowClose id =>
    unfold takeSiteDue
    dsimp only
    split
    · exact List.Sublist.refl _
    · exact (closeWindow_within _ s).grantsShrink

theorem takeDues_grantsShrink (t fuel : Nat) (s : State) : GrantsShrink s (takeDues t fuel s) := by
  induction fuel generalizing s with
  | zero => exact List.Sublist.refl _
  | succ fuel ih =>
    rw [takeDues]
    split
    · exact List.Sublist.refl _
    · exact (takeSiteDue_grantsShrink { s with freeCount := s.freeCount + 1 } _).trans (ih _)

theorem setSiteTime_grantsShrink (tgt : Target) (t : Nat) (s : State) : GrantsShrink s (setSiteTime tgt t s).2 := by
  unfold setSiteTime
  split
  · exact List.Sublist.refl _
  dsimp only
  split
  · exact takeDues_grantsShrink t _ s
  · exact List.Sublist.refl _

theorem siteReset_grantsShrink (tgt : Target) (s : State) : GrantsShrink s (siteReset tgt s).2 := by
  unfold siteReset
  split
  · exact List.Sublist.refl _
  have emptied : GrantsShrink s (resetBlocks (resetSite s)) := List.nil_sublist _
  have suspended := foldl_within (fun t k => suspend_within k .reset t) allCranes (resetBlocks (resetSite s))
  exact (emptied.trans suspended.grantsShrink).trans (resetRecorder_within _).grantsShrink

/-! ### Entries stored (R73) -/

theorem Access.Sound.shrink {s t : State} (hs : s.access.Sound) (h : GrantsShrink s t) : t.access.Sound :=
  ⟨h.length_le.trans hs.1, hs.2.1.sublist h, fun g hg => hs.2.2 g (h.subset hg)⟩

theorem Access.Sound.within {w : Touch} {s t : State} (hs : s.access.Sound) (h : Within w s t)
    (hw : w.access = false := by rfl) : t.access.Sound :=
  hs.shrink (h.grantsShrink hw)

theorem findGrant_isSome {s : State} {k : Crane} {z : Zone} :
    (findGrant s k z).isSome = true ↔ ∃ g ∈ s.access.grants, g.crane = k ∧ g.zone = z := by
  simp [findGrant]

/-- An entry that replaces the one of its crane and zone keeps the table sound. -/
theorem Access.Sound.replace {s : State} (hs : s.access.Sound) {e : Grant} (he : e.uses.jib = true ∨ e.uses.load = true) :
    (s.setGrants (s.access.grants.map fun g => if g.crane == e.crane && g.zone == e.zone then e else g)).access.Sound := by
  have names (g : Grant) : (if g.crane == e.crane && g.zone == e.zone then e else g).crane = g.crane
      ∧ (if g.crane == e.crane && g.zone == e.zone then e else g).zone = g.zone := by
    split
    · rename_i h
      simp only [Bool.and_eq_true, beq_iff_eq] at h
      exact ⟨h.1.symm, h.2.symm⟩
    · exact ⟨rfl, rfl⟩
  obtain ⟨room, apart, useful⟩ := hs
  refine ⟨by simpa using room, ?_, fun g hg => ?_⟩
  · refine List.pairwise_map.2 (apart.imp fun {g h} distinct => ?_)
    rwa [(names g).1, (names g).2, (names h).1, (names h).2]
  · obtain ⟨f, hf, rfl⟩ := List.mem_map.1 hg
    split
    · exact he
    · exact useful f hf

/-- A new entry that finds room and no entry of its crane and zone keeps the table sound. -/
theorem Access.Sound.append {s : State} (hs : s.access.Sound) {e : Grant} (he : e.uses.jib = true ∨ e.uses.load = true)
    (room : s.access.grants.length < 16) (new : ∀ g ∈ s.access.grants, ¬(g.crane = e.crane ∧ g.zone = e.zone)) :
    (s.setGrants (s.access.grants ++ [e])).access.Sound := by
  refine ⟨by simp; omega, ?_, fun g hg => ?_⟩
  · refine List.pairwise_append.2 ⟨hs.2.1, List.pairwise_singleton _ _, fun g hg h hh => ?_⟩
    rw [List.mem_singleton.1 hh]
    exact new g hg
  · rcases List.mem_append.1 hg with hg | hg
    · exact hs.2.2 g hg
    · rw [List.mem_singleton.1 hg]
      exact he

theorem grantAccess_accessSound {s : State} (hs : s.access.Sound) (tgt : Target) (zone : Nat) (uses : PermSet)
    (expiry : Option Nat) : (grantAccess tgt zone uses expiry s).2.access.Sound := by
  unfold grantAccess
  split
  · exact hs
  rename_i k _
  split
  · exact hs
  split
  · exact hs
  rename_i z _
  split
  · exact hs
  split
  · exact hs
  rename_i lawful
  have useful : uses.jib = true ∨ uses.load = true := by
    by_contra h
    simp only [not_or, Bool.not_eq_true] at h
    simp [h.1, h.2] at lawful
  dsimp only
  split
  · dsimp only
    exact Access.Sound.within (hs.replace (e := ⟨k, z, uses, expiry⟩) useful) (reexamine_within _ _)
  rename_i absent
  split
  · exact hs
  · rename_i room
    dsimp only
    refine Access.Sound.within (hs.append (e := ⟨k, z, uses, expiry⟩) useful (by omega) fun g hg hname => ?_)
      (reexamine_within _ _)
    exact absent (findGrant_isSome.2 ⟨g, hg, hname⟩)

/-! ### The table through a step -/

theorem revokeAccess_grantsShrink (tgt : Target) (zone : Nat) (s : State) :
    GrantsShrink s (revokeAccess tgt zone s).2 := by
  unfold revokeAccess
  split
  · split
    · have removed (k z) : GrantsShrink s (s.setGrants (withoutGrant s.access.grants k z)) := List.filter_sublist
      dsimp only
      exact (removed _ _).trans (reexamine_within _ _).grantsShrink
    · exact List.Sublist.refl _
  · exact List.Sublist.refl _

theorem setZonePermissions_grantsShrink (tgt : Target) (mode : Nat) (p : PermSet) (e : Option Nat) (s : State) :
    GrantsShrink s (setZonePermissions tgt mode p e s).2 := by
  have stays : GrantsShrink s s := List.Sublist.refl _
  have set (z : Zone) (p : Perm) : GrantsShrink s (reexamine s (s.setPerm z p)) :=
    GrantsShrink.trans (t := s.setPerm z p) stays (reexamine_within _ _).grantsShrink
  unfold setZonePermissions
  split
  · exact stays
  split
  · exact stays
  split
  · exact stays
  split
  · split
    · exact stays
    · dsimp only
      exact set _ _
  · dsimp only
    exact set _ _

/-- Only GRANT ACCESS stores entries; the other requests that touch the table take entries from it. -/
theorem judged_accessSound {i : Instr} {s : State} {j : Judged} (hj : judgeRequest i s = some j) (hs : s.access.Sound) :
    j.after.access.Sound := by
  cases i with
  | grantAccess tag tgt zone uses expiry => cases hj; exact grantAccess_accessSound hs tgt zone uses expiry
  | revokeAccess tag tgt zone => cases hj; exact hs.shrink (revokeAccess_grantsShrink tgt zone s)
  | setZonePermissions tag tgt mode p e => cases hj; exact hs.shrink (setZonePermissions_grantsShrink tgt mode p e s)
  | commit tag tgt set => cases hj; exact hs.shrink (commit_grantsShrink tag tgt set s)
  | setSiteTime tag tgt t => cases hj; exact hs.shrink (setSiteTime_grantsShrink tgt t s)
  | siteReset tag tgt => cases hj; exact hs.shrink (siteReset_grantsShrink tgt s)
  | _ =>
    have same := (judged_touches hj).access rfl
    rw [same]
    exact hs

theorem accessSound_closed : StepClosed (fun s => s.access.Sound) where
  outer _ _ _ _ _ _ hs := hs
  powerOn _ _ _ _ _ _ := ⟨Nat.zero_le _, List.Pairwise.nil, nofun⟩
  pose k f _ hs := hs.within (acceptPose_within k f _)
  demand k f _ hs := hs.within (acceptDemand_within k f _)
  rejected _ _ hs := hs.within (count_within _ _ _ _)
  assembly _ _ hs := hs
  judged _ _ _ hj hs := judged_accessSound hj hs
  answer q tag rs hs := hs.within (answer_within q tag rs)
  answerRead q tag rs hs := hs.within (answerRead_within q tag rs)
  unknown _ _ _ hs := hs
  stale k s hs _ := hs.within (becomeStale_within k s)
  lost k s hs _ := hs.within (becomeLost_within k s)
  silent k s hs _ := hs.within (becomeSilent_within k s)
  limit z s hs := hs.within (markVacate_within z .holdLimit s)
  blocked k s hs _ := hs.within (blockPreparation_within k s)
  paced t s hs := Access.Sound.within (s := s.setRecorder { s.recorder with paceTimer := t }) hs (sendHead_within _)
  transfer t s hs :=
    Access.Sound.within (s := s.setRecorder { s.recorder with transferTimer := t }) hs (transferAll_within _)
  override z s hs := hs.shrink (expireOverride_grantsShrink z s)
  grant g s hs := hs.shrink (expireGrant_grantsShrink g s)
  opened id _ s hs _ _ := hs.within (openWindow_within id s)
  closed _ b s hs _ := hs.within (closeWindow_within b s)

/-- Settles O14: entries go in all operations but GRANT ACCESS, which replaces one or finds room for one. -/
theorem stepKeepsGrantTableSound : Obligations.StepKeepsGrantTableSound :=
  fun s t hs ht => step_keeps accessSound_closed s t ht hs

end Sys2Proof.Machine

/-! PROOFS. What becomes of the lanes (R22, R25, R28 to R33, R41): the lane record each operation writes, and that a pose halts
other lanes at most. -/

namespace Sys2Proof.Machine

set_option Elab.async false

/-! ### One lane written -/

/-- Two writes of one lane are the last one. -/
theorem lanes_written_twice {k : Crane} {s t u : State} {l m : Lane} (ht : t.lanes = (s.setLane k l).lanes)
    (hu : u.lanes = (t.setLane k m).lanes) : u.lanes = (s.setLane k m).lanes := by
  rw [hu, State.setLane_lanes, ht, State.setLane_lanes, State.setLane_lanes, Vector.set_set]

theorem lane_of_lanes {k : Crane} {s t : State} {l : Lane} (ht : t.lanes = (s.setLane k l).lanes) : t.lane k = l := by
  rw [lane_congr ht, State.setLane_lane_self]

theorem lane_of_lanes_ne {j k : Crane} {s t : State} {l : Lane} (ht : t.lanes = (s.setLane k l).lanes) (h : j ≠ k) :
    t.lane j = s.lane j := by
  rw [lane_congr ht, State.setLane_lane_ne s k l j h]

theorem setLane_lanes_self (k : Crane) (s : State) : s.lanes = (s.setLane k (s.lane k)).lanes := by
  rw [State.setLane_same]

/-! ### Lane timers and lane states (R22, R28 to R33) -/

theorem profile_congr {s t : State} (h : t.site = s.site) (k : Crane) : t.profile k = s.profile k := by
  unfold State.profile; rw [h]

theorem tstaleOf_congr {s t : State} (h : t.site = s.site) (k : Crane) : tstaleOf t k = tstaleOf s k := by
  unfold tstaleOf; rw [profile_congr h]

theorem tlostOf_congr {s t : State} (h : t.site = s.site) (k : Crane) : tlostOf t k = tlostOf s k := by
  unfold tlostOf; rw [profile_congr h]

theorem tcabOf_congr {s t : State} (h : t.site = s.site) (k : Crane) : tcabOf t k = tcabOf s k := by
  unfold tcabOf; rw [profile_congr h]

theorem becomeLive_lanes (k : Crane) (s : State) : (becomeLive k s).lanes
    = (s.setLane k { s.lane k with state := .live, tstale := some (s.now + tstaleOf s k) }).lanes := by
  have stated := setLaneState_lanes k .live s
  have w := setLaneState_within k .live s
  have started : (startTstale k (setLaneState k .live s)).lanes
      = ((setLaneState k .live s).setLane k
          { s.lane k with state := .live, tstale := some (s.now + tstaleOf s k) }).lanes := by
    unfold startTstale
    rw [lane_of_lanes stated, w.now, tstaleOf_congr (w.site rfl)]
  rw [becomeLive, (restartTimer_within _ _).lanes rfl]
  exact lanes_written_twice stated started

/-- The lane record after an accepted pose: the sync run, the lane state and the lane timers (R28 to R31, Figure 2-4). -/
def Lane.advance (l : Lane) (last : Option Nat) (seq : Nat) (fresh : Option Nat) : Lane :=
  match l.state with
  | .syncing =>
    if nextRun l.syncRun last seq < 4 then { l with syncRun := nextRun l.syncRun last seq }
    else { l with syncRun := 0, state := .live, tstale := fresh }
  | .live => { l with tstale := fresh }
  | .stale => { l with tlost := none, state := .live, tstale := fresh }
  | .lost => { l with syncRun := 1, state := .syncing }

theorem Lane.advance_of_syncing {l : Lane} (h : l.state = .syncing) (last : Option Nat) (seq : Nat) (fresh : Option Nat) :
    l.advance last seq fresh = if nextRun l.syncRun last seq < 4 then { l with syncRun := nextRun l.syncRun last seq }
      else { l with syncRun := 0, state := .live, tstale := fresh } := by
  unfold Lane.advance
  split <;> simp_all

theorem Lane.advance_of_live {l : Lane} (h : l.state = .live) (last : Option Nat) (seq : Nat) (fresh : Option Nat) :
    l.advance last seq fresh = { l with tstale := fresh } := by
  unfold Lane.advance
  split <;> simp_all

theorem Lane.advance_of_stale {l : Lane} (h : l.state = .stale) (last : Option Nat) (seq : Nat) (fresh : Option Nat) :
    l.advance last seq fresh = { l with tlost := none, state := .live, tstale := fresh } := by
  unfold Lane.advance
  split <;> simp_all

theorem Lane.advance_of_lost {l : Lane} (h : l.state = .lost) (last : Option Nat) (seq : Nat) (fresh : Option Nat) :
    l.advance last seq fresh = { l with syncRun := 1, state := .syncing } := by
  unfold Lane.advance
  split <;> simp_all

theorem becomeLive_setLane_lanes (k : Crane) (l : Lane) (s : State) : (becomeLive k (s.setLane k l)).lanes
    = (s.setLane k { l with state := .live, tstale := some (s.now + tstaleOf s k) }).lanes := by
  have h := becomeLive_lanes k (s.setLane k l)
  rw [State.setLane_lane_self] at h
  exact lanes_written_twice rfl h

theorem advanceLane_lanes (k : Crane) (last : Option Nat) (seq : Nat) (s : State) : (advanceLane k last seq s).2.lanes
    = (s.setLane k ((s.lane k).advance last seq (some (s.now + tstaleOf s k)))).lanes := by
  unfold advanceLane
  dsimp only
  split
  · rename_i h
    rw [Lane.advance_of_syncing h]
    split
    · rfl
    · have lived := becomeLive_setLane_lanes k { s.lane k with syncRun := 0 } s
      dsimp only
      split
      · exact lived
      · exact lived
  · rename_i h
    rw [Lane.advance_of_live h]
    rfl
  · rename_i h
    rw [Lane.advance_of_stale h]
    exact becomeLive_setLane_lanes k _ s
  · rename_i h
    rw [Lane.advance_of_lost h]
    have stated := setLaneState_lanes k .syncing (s.setLane k { s.lane k with syncRun := 1 })
    rw [State.setLane_lane_self] at stated
    exact lanes_written_twice rfl stated

theorem seqStep_lanes (k : Crane) (seq : Nat) (s : State) :
    (seqStep k seq s).lanes = (s.setLane k { s.lane k with lastSeq := some seq }).lanes := by
  unfold seqStep
  dsimp only
  split <;> rfl

/-- The lane of an accepted pose before the blocks act on it. -/
theorem advancedPose_lanes (k : Crane) (f : List Byte) (s : State) : (advancedPose k f s).2.lanes
    = (s.setLane k (Lane.advance { s.lane k with lastSeq := some (poseIn f).seq } (s.lane k).lastSeq (poseIn f).seq
        (some (s.now + tstaleOf s k)))).lanes := by
  have numbered := seqStep_lanes k (poseIn f).seq s
  have w := seqStep_within k (poseIn f).seq s
  have advanced := advanceLane_lanes k (s.lane k).lastSeq (poseIn f).seq
    (recordPose k (poseIn f) (seqStep k (poseIn f).seq s))
  rw [recordPose, State.setPose_lane, State.setPose_now, lane_of_lanes numbered, w.now,
    tstaleOf_congr (s := s) (by rw [State.setPose_site, w.site rfl])] at advanced
  exact lanes_written_twice numbered advanced

theorem becomeStale_lanes (k : Crane) (s : State) : (becomeStale k s).lanes
    = (s.setLane k { s.lane k with state := .stale, tstale := none, tlost := some (s.now + tlostOf s k) }).lanes := by
  have stopped : (s.setLane k { s.lane k with tstale := none }).lanes
      = (s.setLane k { s.lane k with tstale := none }).lanes := rfl
  have stated := setLaneState_lanes k .stale (s.setLane k { s.lane k with tstale := none })
  rw [State.setLane_lane_self] at stated
  have w := setLaneState_within k .stale (s.setLane k { s.lane k with tstale := none })
  have started : (startTlost k (setLaneState k .stale (s.setLane k { s.lane k with tstale := none }))).lanes
      = ((setLaneState k .stale (s.setLane k { s.lane k with tstale := none })).setLane k
          { s.lane k with state := .stale, tstale := none, tlost := some (s.now + tlostOf s k) }).lanes := by
    unfold startTlost
    rw [lane_of_lanes stated, w.now, tlostOf_congr (w.site rfl)]
    rfl
  unfold becomeStale
  rw [(suspend_within _ _ _).lanes rfl, (clearMarks_within _ _).lanes rfl, (leaveLive_within _ _).lanes rfl]
  split
  · rw [(widen_within _ _).lanes rfl, (freeze_within _ _).lanes rfl]
    exact lanes_written_twice (lanes_written_twice stopped stated) started
  · exact lanes_written_twice (lanes_written_twice stopped stated) started

theorem becomeLost_lanes (k : Crane) (s : State) : (becomeLost k s).lanes
    = (s.setLane k { s.lane k with state := .lost, tlost := none, control := .halted }).lanes := by
  have stated := setLaneState_lanes k .lost (s.setLane k { s.lane k with tlost := none })
  rw [State.setLane_lane_self] at stated
  have halted := haltState_lanes k (setLaneState k .lost (s.setLane k { s.lane k with tlost := none }))
  rw [lane_of_lanes stated] at halted
  rw [becomeLost, trigger_lanes]
  exact lanes_written_twice (lanes_written_twice rfl stated) halted

theorem becomeSilent_lanes (k : Crane) (s : State) :
    (becomeSilent k s).lanes = (s.setLane k { s.lane k with cab := .silent, tcab := none }).lanes := by
  have stated := setCabState_lanes k .silent (s.setLane k { s.lane k with tcab := none })
  rw [State.setLane_lane_self] at stated
  exact lanes_written_twice rfl stated

theorem cabStep_lanes (k : Crane) (s : State) : (cabStep k s).lanes
    = (s.setLane k { s.lane k with cab := .active, tcab := some (s.now + tcabOf s k) }).lanes := by
  have stated := setCabState_lanes k .active s
  have w := setCabState_within k .active s
  have started : (cabStep k s).lanes = ((setCabState k .active s).setLane k
      { s.lane k with cab := .active, tcab := some (s.now + tcabOf s k) }).lanes := by
    unfold cabStep startTcab
    rw [lane_of_lanes stated, w.now, tcabOf_congr (w.site rfl)]
  exact lanes_written_twice stated started

/-- The lane record after the booking step of a demand (R39). -/
def Lane.stepped (l : Lane) (d : DemandIn) (answer : Answer) : Lane :=
  if d.step = 0 ∨ l.lastStep = some d.stepNumber then l
  else { l with lastStep := some d.stepNumber, lastAnswer := some (answer, d.booking) }

theorem stepOnDemand_lanes (k : Crane) (d : DemandIn) (s : State) : (stepOnDemand k d s).lanes
    = (s.setLane k ((s.lane k).stepped d (bookingStep k d.step d.booking s).1)).lanes := by
  have same := (bookingStep_within k d.step d.booking s).lanes rfl
  unfold stepOnDemand Lane.stepped
  split
  · exact setLane_lanes_self k s
  · dsimp only
    rw [State.setLane_lanes, State.setLane_lanes, same, lane_congr same]

/-- The lane record after a substituted STOP, which only a SILENT cab brings (R34, R41). -/
def Lane.substituted (l : Lane) : Lane :=
  if l.cab = .silent then { l with outSeq := (l.outSeq + 1) % 256, clamps := .all false } else l

theorem substituteStop_lanes (k : Crane) (s : State) :
    (substituteStop k s).lanes = (s.setLane k (s.lane k).substituted).lanes := by
  unfold substituteStop Lane.substituted
  split
  · rw [(count_within _ _ _ _).lanes rfl, sendDemand_lanes]
  · exact setLane_lanes_self k s

theorem restartLane_lanes (k : Crane) (s : State) : (restartLane k s).lanes
    = (s.setLane k { Lane.reset with cab := (s.lane k).cab, tcab := (s.lane k).tcab, outSeq := (s.lane k).outSeq }).lanes := by
  have stated := setLaneState_lanes k .syncing s
  have halted := setControl_lanes k .halted (setLaneState k .syncing s)
  rw [lane_of_lanes stated] at halted
  have written := lanes_written_twice stated halted
  unfold restartLane
  dsimp only
  rw [State.setPose_lanes, lane_of_lanes written]
  exact lanes_written_twice written rfl

/-! ### Halts (R35, R48) -/

/-- From `s` to `t` a lane stays as it is or is halted. -/
def HaltsOnly (s t : State) : Prop := ∀ j, t.lane j = s.lane j ∨ t.lane j = { s.lane j with control := .halted }

theorem HaltsOnly.refl (s : State) : HaltsOnly s s := fun _ => .inl rfl

theorem HaltsOnly.trans {s t u : State} (h : HaltsOnly s t) (h' : HaltsOnly t u) : HaltsOnly s u := fun j => by
  rcases h j with h | h <;> rcases h' j with h' | h' <;> rw [h', h]
  · exact .inl rfl
  · exact .inr rfl
  · exact .inr rfl
  · exact .inr rfl

theorem Within.haltsOnly {w : Touch} {s t : State} (h : Within w s t) (hw : w.lanes = false := by rfl) : HaltsOnly s t :=
  fun j => .inl (lane_congr (h.lanes hw) j)

theorem haltState_haltsOnly (k : Crane) (s : State) : HaltsOnly s (haltState k s) := fun j => by
  by_cases hj : j = k
  · subst hj
    exact .inr (lane_of_lanes (haltState_lanes j s))
  · exact .inl (lane_of_lanes_ne (haltState_lanes k s) hj)

/-- The footprint step of a pose has been taken (R47, R48, R50, R78). -/
def footprintTaken (k : Crane) (s : State) : State := footprintStep k (footprint s k) (s.arb k).settling s

/-- Footprint step and release step of a pose have been taken (R49). -/
def reachReleased (k : Crane) (s : State) : State :=
  releaseStep k (footprint s k) (reachSet (footprintTaken k s) k) (brakeReleased (footprintTaken k s) k) (footprintTaken k s)

/-- What judging a pose keeps: the two steps, the settling mark, and then halts (R46, R48). -/
theorem judgePose_keeps {P : State → Prop} (k : Crane) (s : State) (steps : P (reachReleased k s))
    (mark : ∀ t a, P t → P (t.setArb k a)) (halt : ∀ t j, P t → P (haltState j t)) : P (judgePose k s) := by
  have settled := mark _ { (reachReleased k s).arb k with settling := false } steps
  unfold judgePose
  dsimp only
  split
  · exact settled
  · exact foldl_keeps halt _ _ (halt _ k settled)

/-- The frame of footprint step and release step together. -/
abbrev Touch.reach : Touch := { Touch.footprint with vanes := true }

theorem reachReleased_within (k : Crane) (s : State) : Within Touch.reach s (reachReleased k s) :=
  Within.after (a := Touch.reach) (releaseStep_within _ _ _ _ _).mono (footprintStep_within _ _ _ _).mono

theorem judgePose_haltsOnly (k : Crane) (s : State) : HaltsOnly s (judgePose k s) :=
  judgePose_keeps k s (reachReleased_within k s).haltsOnly (fun _ _ ht => ht.trans (setArb_within _ _ _).haltsOnly)
    fun t j ht => ht.trans (haltState_haltsOnly j t)

/-- The blocks that act on a pose halt lanes and change nothing else of them. -/
theorem poseBlocks_haltsOnly (k : Crane) (live : Bool) (s : State) : HaltsOnly s (poseBlocks k live s) := by
  unfold poseBlocks
  dsimp only
  refine HaltsOnly.trans ?_ ((((windOnPose_within k _).haltsOnly.trans (vaneOnPose_within k _ _ _).haltsOnly).trans
    (bookingOnPose_within k _ _ _).haltsOnly).trans (pendingCommitStep_within k _).haltsOnly)
  split
  · exact ((judgePose_haltsOnly k s).trans (overrunCheck_within k _).haltsOnly).trans (chartJudge_within k _).haltsOnly
  · exact .refl s

end Sys2Proof.Machine

/-! PROOFS. Lanes, pose records and Wind Monitors stay sound (R22, R27 to R32, R105, R106, R113, R172). -/

namespace Sys2Proof.Machine

set_option Elab.async false

/-! ### Lanes -/

/-- Every lane is sound (R22, R28 to R32). -/
def LanesSound (s : State) : Prop := ∀ k, (s.lane k).Sound

theorem LanesSound.write {s t : State} {k : Crane} {l : Lane} (hs : LanesSound s)
    (ht : t.lanes = (s.setLane k l).lanes) (hl : l.Sound) : LanesSound t := fun j => by
  by_cases hj : j = k
  · rw [hj, lane_of_lanes ht]
    exact hl
  · rw [lane_of_lanes_ne ht hj]
    exact hs j

theorem LanesSound.within {w : Touch} {s t : State} (hs : LanesSound s) (h : Within w s t) (hw : w.lanes = false := by rfl) :
    LanesSound t := fun k => by
  rw [lane_congr (h.lanes hw)]
  exact hs k

/-- The control state takes no part in what a sound lane is. -/
theorem LanesSound.halts {s t : State} (hs : LanesSound s) (h : HaltsOnly s t) : LanesSound t := fun k => by
  rcases h k with h | h <;> rw [h]
  · exact hs k
  · exact hs k

theorem Lane.Sound.advance {l : Lane} (hl : l.Sound) (last : Option Nat) (seq n : Nat) :
    (l.advance last seq (some n)).Sound := by
  obtain ⟨stale, lost, cab, run, runs, numbers⟩ := hl
  cases h : l.state with
  | syncing =>
    rw [Lane.advance_of_syncing h]
    split
    · exact ⟨stale, lost, cab, by dsimp only; omega, fun hne => absurd h hne, numbers⟩
    · exact ⟨by simp, by simpa [h] using lost, cab, by simp, by simp, numbers⟩
  | live =>
    rw [Lane.advance_of_live h]
    exact ⟨by simp [h], lost, cab, run, runs, numbers⟩
  | stale =>
    rw [Lane.advance_of_stale h]
    exact ⟨by simp, by simp, cab, run, fun _ => runs (by simp [h]), numbers⟩
  | lost =>
    rw [Lane.advance_of_lost h]
    exact ⟨by simpa [h] using stale, by simpa [h] using lost, cab, by simp, by simp, numbers⟩

theorem Lane.Sound.numbered {l : Lane} (hl : l.Sound) {seq : Nat} (h : seq ≤ 255) :
    Lane.Sound { l with lastSeq := some seq } := by
  obtain ⟨stale, lost, cab, run, runs, _, rest⟩ := hl
  exact ⟨stale, lost, cab, run, runs, by simpa using h, rest⟩

theorem Lane.Sound.substituted {l : Lane} (hl : l.Sound) : l.substituted.Sound := by
  obtain ⟨stale, lost, cab, run, runs, last, step, _⟩ := hl
  unfold Lane.substituted
  split
  · exact ⟨stale, lost, cab, run, runs, last, step, by dsimp only; omega⟩
  · exact ⟨stale, lost, cab, run, runs, last, step, by assumption⟩

theorem Lane.Sound.stepped {l : Lane} (hl : l.Sound) {d : DemandIn} (h : d.stepNumber ≤ 255) (a : Answer) :
    (l.stepped d a).Sound := by
  unfold Lane.stepped
  split
  · exact hl
  · obtain ⟨stale, lost, cab, run, runs, last, _, out⟩ := hl
    exact ⟨stale, lost, cab, run, runs, last, by simpa using h, out⟩

theorem Lane.Sound.withControl {l : Lane} (hl : l.Sound) (c : ControlState) : Lane.Sound { l with control := c } := hl

theorem Lane.Sound.restarted {l : Lane} (hl : l.Sound) :
    Lane.Sound { Lane.reset with cab := l.cab, tcab := l.tcab, outSeq := l.outSeq } := by
  obtain ⟨_, _, cab, _, _, _, _, out⟩ := hl
  exact ⟨by simp [Lane.reset], by simp [Lane.reset], cab, by simp [Lane.reset], by simp [Lane.reset],
    by simp [Lane.reset], by simp [Lane.reset], out⟩

theorem Lane.reset_sound : Lane.reset.Sound := by
  refine ⟨?_, ?_, ?_, ?_, ?_, ?_, ?_, ?_⟩ <;> simp [Lane.reset]

theorem unsignedAt_one_le (f : List Byte) (i : Nat) : unsignedAt f i 1 ≤ 255 := by
  have := unsignedAt_one_lt f i
  omega

theorem LanesSound.acceptPose {s : State} (hs : LanesSound s) (k : Crane) (f : List Byte) : LanesSound (acceptPose k f s) := by
  have advanced : LanesSound (advancedPose k f s).2 :=
    hs.write (advancedPose_lanes k f s) (((hs k).numbered (unsignedAt_one_le f 2)).advance _ _ _)
  have forwarded : LanesSound (forwardPose k (poseIn f).flags (judgedPose k f s)) :=
    (advanced.halts (poseBlocks_haltsOnly k _ _)).within (forwardPose_within k _ _)
  rw [acceptPose_eq]
  exact forwarded.write (substituteStop_lanes k _) (forwarded k).substituted

theorem LanesSound.cabStep {s : State} (hs : LanesSound s) (k : Crane) : LanesSound (cabStep k s) := by
  obtain ⟨stale, lost, _, rest⟩ := hs k
  exact hs.write (cabStep_lanes k s) ⟨stale, lost, by simp, rest⟩

theorem LanesSound.sendDemand {s : State} (hs : LanesSound s) (k : Crane) (v : PerAxis Int) (c : PerAxis Bool)
    (r : ReasonFlags) (sub : Bool) : LanesSound (sendDemand k v c r sub s) := by
  obtain ⟨stale, lost, cab, run, runs, last, step, _⟩ := hs k
  exact hs.write (sendDemand_lanes k v c r sub s) ⟨stale, lost, cab, run, runs, last, step, by dsimp only; omega⟩

theorem LanesSound.acceptDemand {s : State} (hs : LanesSound s) (k : Crane) (f : List Byte) :
    LanesSound (acceptDemand k f s) := by
  have cabbed := hs.cabStep k
  have stepped : LanesSound (stepOnDemand k (demandIn f) (Machine.cabStep k s)) :=
    cabbed.write (stepOnDemand_lanes k _ _) ((cabbed k).stepped (unsignedAt_one_le f 8) _)
  exact ((stepped.within (govern_within k (demandIn f).speed _)).sendDemand k _ _ _ _).within (reloadTimer_within _ _ _)

theorem LanesSound.becomeStale {s : State} (hs : LanesSound s) (k : Crane) (h : (s.lane k).state = .live) :
    LanesSound (becomeStale k s) := by
  obtain ⟨_, _, cab, run, runs, numbers⟩ := hs k
  exact hs.write (becomeStale_lanes k s) ⟨by simp, by simp, cab, run, fun _ => runs (by simp [h]), numbers⟩

theorem LanesSound.becomeLost {s : State} (hs : LanesSound s) (k : Crane) (h : (s.lane k).state = .stale) :
    LanesSound (becomeLost k s) := by
  obtain ⟨stale, _, cab, run, runs, numbers⟩ := hs k
  exact hs.write (becomeLost_lanes k s) ⟨by simpa [h] using stale, by simp, cab, run, fun _ => runs (by simp [h]), numbers⟩

theorem LanesSound.becomeSilent {s : State} (hs : LanesSound s) (k : Crane) : LanesSound (becomeSilent k s) := by
  obtain ⟨stale, lost, _, rest⟩ := hs k
  exact hs.write (becomeSilent_lanes k s) ⟨stale, lost, by simp, rest⟩

theorem LanesSound.runPresent {s : State} (hs : LanesSound s) (k : Crane) : LanesSound (runPresent s k) := by
  unfold Machine.runPresent
  split
  · exact hs.write (setControl_lanes k .run s) ((hs k).withControl _)
  · exact hs

/-- What COMMENCE keeps: its five passes over the cranes, after the mode has changed (R164). -/
theorem startOperating_keeps {P : State → Prop} (s : State) (hs : P { s with mode := .operating })
    (monitor : ∀ t k, P t → P (startMonitor t k)) (mark : ∀ t k, P t → P (markSettling k t))
    (run : ∀ t k, P t → P (runPresent t k)) (startUp : ∀ t k, P t → P (startUpAtCommence t k))
    (resume : ∀ t k, P t → P (judgeResume k t)) : P (startOperating s) :=
  foldl_keeps resume _ _ (foldl_keeps startUp _ _ (foldl_keeps run _ _ (foldl_keeps mark _ _
    (foldl_keeps monitor _ _ hs))))

/-- The start-up decision touches no lane. -/
theorem startUpAtCommence_lanes (s : State) (k : Crane) : (startUpAtCommence s k).lanes = s.lanes := by
  unfold startUpAtCommence
  split
  · rfl
  rename_i prof _
  have vaned := (startVaning_within k prof s).lanes rfl
  split
  · dsimp only
    split
    · exact vaned
    · rw [(suspend_within _ _ _).lanes rfl, vaned]
  · rfl

theorem LanesSound.startOperating {s : State} (hs : LanesSound s) : LanesSound (startOperating s) :=
  startOperating_keeps s hs (fun t k ht => ht.within (startMonitor_within t k))
    (fun t k ht => ht.within (markSettling_within k t)) (fun _ k ht => ht.runPresent k)
    (fun t k ht j => by rw [lane_congr (startUpAtCommence_lanes t k)]; exact ht j)
    (fun t k ht => ht.within (judgeResume_within k t))

/-- What CRANE RESTART keeps: its parts in the order R166 lists them. -/
theorem restart_keeps {P : State → Prop} (k : Crane) (s : State) (lane : P (restartLane k s))
    (arbiter : ∀ t, P t → P (restartArbiter k t)) (gov : ∀ t, P t → P (t.setGov k .reset))
    (vane : ∀ t, P t → P (setVaneRec k .reset t)) (wind : ∀ t b, P t → P (initialise k b t).2)
    (suspended : ∀ t, P t → P (suspend k .lane t)) (counters : ∀ t, P t → P (clearCounters k t)) : P (restart k s) :=
  counters _ (suspended _ (wind _ _ (vane _ (gov _ (arbiter _ lane)))))

theorem LanesSound.restart {s : State} (hs : LanesSound s) (k : Crane) : LanesSound (restart k s) := by
  have restarted : LanesSound (restartLane k s) := hs.write (restartLane_lanes k s) (hs k).restarted
  exact restart_keeps k s restarted (fun t ht => ht.within (restartArbiter_within k t))
    (fun t ht => ht.within (setGov_within t k _)) (fun t ht => ht.within (setVaneRec_within k _ t))
    (fun t b ht => ht.within (initialise_within k b t)) (fun t ht => ht.within (suspend_within k .lane t))
    (fun t ht => ht.within (clearCounters_within k t))

theorem judged_lanesSound {i : Instr} {s : State} {j : Judged} (hj : judgeRequest i s = some j) (hs : LanesSound s) :
    LanesSound j.after := by
  cases i with
  | commence tag tgt =>
    cases hj
    show LanesSound (commence tgt s).2
    unfold commence
    split
    · exact hs
    split
    · exact hs
    split
    · exact hs
    · dsimp only
      exact hs.startOperating
  | siteReset tag tgt =>
    cases hj
    show LanesSound (siteReset tgt s).2
    unfold siteReset
    split
    · exact hs
    · have reset : LanesSound (resetBlocks (resetSite s)) := fun k => by
        simp only [State.lane, resetBlocks, Fin.getElem_fin, Vector.getElem_replicate]
        exact Lane.reset_sound
      exact (reset.within (foldl_within (fun t k => suspend_within k .reset t) _ _)).within (resetRecorder_within _)
  | craneRestart tag tgt =>
    cases hj
    show LanesSound (craneRestart tgt s).2
    unfold craneRestart
    split
    · exact hs
    · exact hs.restart _
  | haltCrane tag tgt =>
    cases hj
    show LanesSound (haltCrane tgt s).2
    unfold haltCrane
    split
    · exact hs
    · exact hs.halts (haltState_haltsOnly _ s)
  | releaseCrane tag tgt =>
    cases hj
    show LanesSound (releaseCrane tgt s).2
    unfold releaseCrane
    split
    · exact hs
    split
    · exact hs
    split
    · exact hs
    split
    · exact hs
    split
    · exact hs
    · dsimp only
      exact hs.write (runState_lanes _ s) ((hs _).withControl _)
  | _ => exact fun k => by rw [lane_congr ((judged_touches hj).lanes rfl)]; exact hs k

theorem lanesSound_closed : StepClosed LanesSound where
  outer _ _ _ _ _ _ hs := hs
  powerOn _ _ _ _ _ _ := fun k => by
    simp only [State.lane, State.reset, Fin.getElem_fin, Vector.getElem_replicate]
    exact Lane.reset_sound
  pose k f _ hs := hs.acceptPose k f
  demand k f _ hs := hs.acceptDemand k f
  rejected _ _ hs := hs.within (count_within _ _ _ _)
  assembly _ _ hs := hs
  judged _ _ _ hj hs := judged_lanesSound hj hs
  answer q tag rs hs := hs.within (answer_within q tag rs)
  answerRead q tag rs hs := hs.within (answerRead_within q tag rs)
  unknown _ _ _ hs := hs
  stale k _ hs h := hs.becomeStale k h
  lost k _ hs h := hs.becomeLost k h
  silent k _ hs _ := hs.becomeSilent k
  limit z s hs := hs.within (markVacate_within z .holdLimit s)
  blocked k s hs _ := hs.within (blockPreparation_within k s)
  paced t s hs := LanesSound.within (s := s.setRecorder { s.recorder with paceTimer := t }) hs (sendHead_within _)
  transfer t s hs :=
    LanesSound.within (s := s.setRecorder { s.recorder with transferTimer := t }) hs (transferAll_within _)
  override z s hs := hs.within (expireOverride_within z s)
  grant g s hs := hs.within (expireGrant_within g s)
  opened id _ s hs _ _ := hs.within (openWindow_within id s)
  closed _ b s hs _ := hs.within (closeWindow_within b s)

/-! ### Records that poses and requests alone touch -/

/-- A property of a part of the state that, POWER_ON apart, accepted poses and requests alone touch. -/
theorem stepClosed_of_pose_and_request {P : State → Prop} (part : Touch → Bool)
    (keep : ∀ {w : Touch} {s t : State}, P s → Touches w s t → part w = false → P t)
    (powerOn : ∀ (pending : List Instr) (sent : List Sent) (free : Nat),
      P { State.reset with pending := pending, sent := sent, freeCount := free })
    (pose : ∀ k f s, P s → P (acceptPose k f s))
    (judged : ∀ i s j, judgeRequest i s = some j → part (requestTouch i) = true → P s → P j.after)
    (others : (part Touch.demand || part Touch.due || part Touch.transfer || part { gov := true, lanes := true }
      || part Touch.permission || part { mgmt := true } || part { sent := true } || part { counters := true }
      || part { recorder := true }
      || part { lanes := true, air := true, gov := true, vanes := true, bookings := true }) = false) : StepClosed P := by
  simp only [Bool.or_eq_false_iff] at others
  obtain ⟨⟨⟨⟨⟨⟨⟨⟨⟨demand, due⟩, transfer⟩, lanes⟩, permission⟩, mgmt⟩, sent⟩, counters⟩, recorder⟩, stale⟩ := others
  exact {
    outer := fun s now clock line waiting free hs =>
      keep (w := { mgmt := true }) (t := { s with now := now, clock := clock, line := line, pending := waiting, freeCount := free })
        hs (Within.refl _ _) mgmt
    powerOn := fun waiting sent free _ _ _ => powerOn waiting sent free
    pose := pose
    demand := fun k f s hs => keep hs (acceptDemand_within k f s).touches demand
    rejected := fun k s hs => keep hs (count_within k .frameErrors 1 s).touches counters
    assembly := fun a s hs => keep hs (setMgmt_within s _).touches mgmt
    judged := fun i s j hj hs => by
      cases h : part (requestTouch i) with
      | false => exact keep hs (judged_touches hj) h
      | true => exact judged i s j hj h hs
    answer := fun q tag rs hs => keep hs (answer_within q tag rs).touches sent
    answerRead := fun q tag rs hs => keep hs (answerRead_within q tag rs).touches sent
    unknown := fun _ _ s hs => keep hs (send_within _ _ s).touches sent
    stale := fun k s hs _ => keep hs (becomeStale_within k s).touches stale
    lost := fun k s hs _ => keep hs (becomeLost_within k s).mono.touches stale
    silent := fun k s hs _ => keep hs (becomeSilent_within k s).mono.touches lanes
    limit := fun z s hs => keep hs (markVacate_within z .holdLimit s).mono.touches permission
    blocked := fun k s hs _ => keep hs (blockPreparation_within k s).mono.touches permission
    paced := fun t s hs => keep (keep hs (setRecorder_within (w := { recorder := true })
      (r := { s.recorder with paceTimer := t }) ⟨nofun, nofun, nofun, nofun, fun _ => rfl, id⟩).touches recorder)
      (sendHead_within _).touches sent
    transfer := fun t s hs => keep (keep hs (setRecorder_within (w := { recorder := true })
      (r := { s.recorder with transferTimer := t }) ⟨nofun, nofun, nofun, nofun, fun _ => rfl, id⟩).touches recorder)
      (transferAll_within _).touches transfer
    override := fun z s hs => keep hs (expireOverride_within z s).touches permission
    grant := fun g s hs => keep hs (expireGrant_within g s).touches permission
    opened := fun id _ s hs _ _ => keep hs (openWindow_within id s).mono.touches due
    closed := fun _ b s hs _ => keep hs (closeWindow_within b s).mono.touches due }

/-! ### Pose records -/

/-- Every pose record is sound (R27, R172). -/
def PosesSound (s : State) : Prop := ∀ k, ∀ p ∈ s.pose k, p.Sound

theorem saturateSpeed_natAbs_le (limit : Nat) (v : Int) : (saturateSpeed limit v).natAbs ≤ limit := by
  unfold saturateSpeed
  omega

theorem saturateWind_range (n : Nat) : saturateWind n ≤ 800 ∨ saturateWind n = 65535 := by
  unfold saturateWind
  split
  · exact .inr rfl
  · omega

theorem unsignedAt_two_le (f : List Byte) (i : Nat) : unsignedAt f i 2 ≤ 65535 := by
  unfold unsignedAt fieldAt
  rcases f.drop i with _ | ⟨a, _ | ⟨b, bs⟩⟩
  · decide
  · have := a.isLt
    simp [readBe]
    omega
  · have := a.isLt
    have := b.isLt
    simp [readBe]
    omega

/-- What an accepted pose records is saturated to the ranges of its fields (R27, R172). -/
theorem poseRecord_sound (old : Option Pose) (f : List Byte) (s : State) : (poseRecord old (poseIn f) s.stamp).Sound := by
  refine ⟨unsignedAt_two_le f 4, Nat.min_le_left _ _, Nat.min_le_left _ _, ?_, ?_, ?_, Nat.min_le_left _ _,
    saturateWind_range _, unsignedAt_one_le f 2, Nat.min_le_left _ _⟩
  · exact saturateSpeed_natAbs_le 4000 _
  · exact saturateSpeed_natAbs_le 100 _
  · exact saturateSpeed_natAbs_le 200 _

theorem seqStep_stamp (k : Crane) (seq : Nat) (s : State) : (seqStep k seq s).stamp = s.stamp := by
  unfold State.stamp
  rw [(seqStep_within k seq s).clock, (seqStep_within k seq s).now]

theorem acceptPose_poses (k : Crane) (f : List Byte) (s : State) :
    (acceptPose k f s).poses = (s.setPose k (some (poseRecord (s.pose k) (poseIn f) s.stamp))).poses := by
  rw [acceptPose_eq, (substituteStop_within _ _).poses rfl, (forwardPose_within _ _ _).poses rfl, judgedPose,
    (poseBlocks_within _ _ _).poses rfl, advancedPose, (advanceLane_within _ _ _ _).poses rfl, recordPose,
    State.setPose_poses, State.setPose_poses, (seqStep_within _ _ _).poses rfl, seqStep_stamp,
    pose_congr ((seqStep_within _ _ _).poses rfl)]

theorem PosesSound.acceptPose {s : State} (hs : PosesSound s) (k : Crane) (f : List Byte) : PosesSound (acceptPose k f s) := by
  intro j p hp
  rw [pose_congr (acceptPose_poses k f s), State.setPose_pose] at hp
  split at hp
  · cases hp
    exact poseRecord_sound _ f s
  · exact hs j p hp

theorem PosesSound.touches {w : Touch} {s t : State} (hs : PosesSound s) (h : Touches w s t) (hw : w.poses = false) :
    PosesSound t := fun k => by
  rw [pose_congr (h.poses hw)]
  exact hs k

theorem PosesSound.restart {s : State} (hs : PosesSound s) (k : Crane) : PosesSound (restart k s) := by
  have emptied : PosesSound (restartLane k s) := fun j p hp => by
    unfold restartLane at hp
    dsimp only at hp
    rw [State.setPose_pose] at hp
    split at hp
    · cases hp
    · rw [State.setLane_pose, pose_congr ((setControl_within _ _ _).poses rfl),
        pose_congr ((setLaneState_within _ _ _).poses rfl)] at hp
      exact hs j p hp
  exact restart_keeps k s emptied (fun t ht => ht.touches (restartArbiter_within k t).touches rfl)
    (fun _ ht => ht) (fun t ht => ht.touches (setVaneRec_within k _ t).touches rfl)
    (fun t b ht => ht.touches (initialise_within k b t).touches rfl)
    (fun t ht => ht.touches (suspend_within k .lane t).touches rfl) (fun _ ht => ht)

theorem posesSound_closed : StepClosed PosesSound := by
  refine stepClosed_of_pose_and_request (·.poses) PosesSound.touches (fun _ _ _ k p hp => ?_)
    (fun k f _ hs => hs.acceptPose k f) (fun i s j hj hi hs => ?_) rfl
  · simp [State.pose, State.reset] at hp
  · cases i with
    | siteReset tag tgt =>
      cases hj
      show PosesSound (siteReset tgt s).2
      unfold siteReset
      split
      · exact hs
      · have emptied : PosesSound (resetBlocks (resetSite s)) := fun k p hp => by
          simp [State.pose, resetBlocks] at hp
        exact (emptied.touches (foldl_within (fun t k => suspend_within k .reset t) _ _).touches rfl).touches
          (resetRecorder_within _).touches rfl
    | craneRestart tag tgt =>
      cases hj
      show PosesSound (craneRestart tgt s).2
      unfold craneRestart
      split
      · exact hs
      · exact hs.restart _
    | _ => cases hi

end Sys2Proof.Machine

/-! PROOFS. Wind Monitors stay sound (R105, R106, R113 to R115): a raise count of a level that is not above the current one is
zero, and a fault mark stands at HOLD or STOW alone. -/

namespace Sys2Proof.Machine

set_option Elab.async false

/-! ### One record written -/

/-- Every Wind Monitor is sound (R105, R113). -/
def WindsSound (s : State) : Prop := ∀ k, (s.wind k).Sound

theorem WindsSound.touches {w : Touch} {s t : State} (hs : WindsSound s) (h : Touches w s t) (hw : w.winds = false := by rfl) :
    WindsSound t := fun k => by
  rw [wind_congr (h.winds hw)]
  exact hs k

theorem WindsSound.within {w : Touch} {s t : State} (hs : WindsSound s) (h : Within w s t) (hw : w.winds = false := by rfl) :
    WindsSound t := hs.touches h.touches hw

theorem WindsSound.setWind {s : State} (hs : WindsSound s) (k : Crane) {w : WindRec} (hw : w.Sound) :
    WindsSound (s.setWind k w) := fun j => by
  rw [State.setWind_wind]
  split
  · exact hw
  · exact hs j

theorem setLevel_wind (k : Crane) (new : WindLevel) (s : State) :
    (setLevel k new s).wind k = { s.wind k with level := new } := by
  rw [wind_congr (setLevel_winds k new s), State.setWind_wind_self]

theorem WindsSound.setLevel {s : State} (hs : WindsSound s) (k : Crane) {new : WindLevel}
    (h : WindRec.Sound { s.wind k with level := new }) : WindsSound (setLevel k new s) := fun j => by
  rw [wind_congr (setLevel_winds k new s), State.setWind_wind]
  split
  · exact h
  · exact hs j

/-- Writing a record and then its level. -/
theorem WindsSound.setWindLevel {s : State} (hs : WindsSound s) (k : Crane) {w : WindRec} {new : WindLevel} (hw : w.Sound)
    (h : WindRec.Sound { w with level := new }) : WindsSound (Machine.setLevel k new (s.setWind k w)) :=
  (hs.setWind k hw).setLevel k (by rw [State.setWind_wind_self]; exact h)

/-! ### Records under a sample -/

theorem WindRec.initial_sound (running : Bool) : (WindRec.initial running).Sound := by
  simp [WindRec.Sound, WindRec.initial]

/-- A count of a level that is not above the current one is not judged (R113). -/
theorem raiseCount_of_le {current l : WindLevel} (p : Policy) (figure n : Nat) (h : windRank l ≤ windRank current) :
    raiseCount p current l figure n = n :=
  if_neg (by omega)

theorem WindRec.Sound.countRaises {w : WindRec} (hw : w.Sound) (p : Policy) (figure : Nat) :
    (w.countRaises p figure).Sound := by
  obtain ⟨alert, hold, stow, rest⟩ := hw
  refine ⟨fun h => ?_, fun h => ?_, fun h => ?_, rest⟩
  · have : windRank .alert ≤ windRank w.level := by
      cases hl : w.level with
      | calm => exact absurd hl h
      | alert | hold | stow => decide
    exact (raiseCount_of_le p figure _ this).trans (alert h)
  · have : windRank .hold ≤ windRank w.level := by
      rcases h with hl | hl
      · rw [show w.level = _ from hl]
      · rw [show w.level = _ from hl]
        decide
    exact (raiseCount_of_le p figure _ this).trans (hold h)
  · have : windRank .stow ≤ windRank w.level := by rw [show w.level = _ from h]
    exact (raiseCount_of_le p figure _ this).trans (stow h)

/-- A record without a fault mark is sound at any level once the raise counts up to it are zero. -/
theorem WindRec.Sound.zeroRaises {w : WindRec} (hw : w.Sound) (hf : w.faultMark = false) (l : WindLevel) :
    WindRec.Sound { w.zeroRaises l with clearCount := 0, level := l } := by
  obtain ⟨_, _, _, _, _, run⟩ := hw
  refine ⟨fun h => ?_, fun h => ?_, fun h => ?_, fun _ => rfl, fun h => ?_, run⟩
  · cases l with
    | calm => exact absurd rfl h
    | alert | hold | stow => rfl
  · rcases h with h | h
    · cases h
      rfl
    · cases h
      rfl
  · cases h
    rfl
  · exact absurd (hf.symm.trans h) (by decide)

/-- A count is zero where it was zero before, so zeroing counts keeps a record sound at its level. -/
theorem WindRec.Sound.zeroed {w : WindRec} (hw : w.Sound) (l : WindLevel) :
    WindRec.Sound { w.zeroRaises l with clearCount := 0 } := by
  obtain ⟨alert, hold, stow, _, fault, run⟩ := hw
  have zero {c : Prop} [Decidable c] {n : Nat} (h : n = 0) : (if c then 0 else n) = 0 := by split <;> [rfl; exact h]
  exact ⟨fun h => zero (alert h), fun h => zero (hold h), fun h => zero (stow h), fun _ => rfl, fault, run⟩

/-- The level below keeps a record without a fault mark sound (R114). -/
theorem WindRec.Sound.levelBelow {w : WindRec} (hw : w.Sound) (hf : w.faultMark = false) :
    WindRec.Sound { w with level := levelBelow w.level, clearCount := 0 } := by
  obtain ⟨alert, hold, stow, _, _, run⟩ := hw
  refine ⟨fun h => alert fun hl => ?_, fun h => hold ?_, fun h => ?_, fun _ => rfl, fun h => ?_, run⟩
  · rw [hl] at h
    exact h rfl
  · cases hl : w.level <;> simp [hl, Machine.levelBelow] at h ⊢
  · cases hl : w.level <;> simp [hl, Machine.levelBelow] at h
  · exact absurd (hf.symm.trans h) (by decide)

/-! ### A sample taken (R105 to R109) -/

theorem WindsSound.judgeRaise {s : State} (hs : WindsSound s) (k : Crane) (p : Policy) (figure : Nat)
    (hf : (s.wind k).faultMark = false) : WindsSound (judgeRaise k p figure s) := by
  have counted := (hs k).countRaises p figure
  unfold Machine.judgeRaise
  dsimp only
  split
  · exact hs.setWind k counted
  · exact hs.setWindLevel k (counted.zeroed _) (counted.zeroRaises hf _)

theorem judgeRaise_faultMark {k : Crane} (p : Policy) (figure : Nat) (s : State) :
    ((judgeRaise k p figure s).wind k).faultMark = (s.wind k).faultMark := by
  unfold judgeRaise
  dsimp only
  split
  · rw [State.setWind_wind_self]
    rfl
  · rw [setLevel_wind, State.setWind_wind_self]
    rfl

theorem WindsSound.judgeClear {s : State} (hs : WindsSound s) (k : Crane) (p : Policy) (figure : Nat)
    (hf : (s.wind k).faultMark = false) : WindsSound (judgeClear k p figure s) := by
  obtain ⟨alert, hold, stow, clear, fault, run⟩ := hs k
  have cleared : WindRec.Sound { s.wind k with clearCount := 0 } := ⟨alert, hold, stow, fun _ => rfl, fault, run⟩
  unfold Machine.judgeClear
  dsimp only
  split
  · exact hs
  rename_i raised
  split
  · exact hs.setWind k cleared
  split
  · exact hs.setWind k ⟨alert, hold, stow, fun h => absurd h raised, fault, run⟩
  · exact hs.setWindLevel k cleared ((hs k).levelBelow hf)

/-- Applying a pending policy shortens the window of its monitor at most (R19). -/
theorem policyStep_winds (k : Crane) (s : State) :
    ∃ window, (policyStep k s).winds = (s.setWind k { s.wind k with window := window }).winds := by
  unfold policyStep
  split
  · exact ⟨_, by rw [State.setWind_same]⟩
  split
  · unfold applyPolicy
    dsimp only
    rw [(commitResult_within _ _ _ _).winds rfl]
    exact ⟨_, rfl⟩
  · exact ⟨_, by rw [State.setWind_same]⟩

theorem WindsSound.qualify {s : State} (hs : WindsSound s) (k : Crane) (x : Nat) : WindsSound (qualify k x s).2 := by
  obtain ⟨alert, hold, stow, clear, _, run⟩ := hs k
  have unmarked : WindRec.Sound { s.wind k with faultMark := false } := ⟨alert, hold, stow, clear, nofun, run⟩
  obtain ⟨window, applied⟩ := policyStep_winds k (s.setWind k { s.wind k with faultMark := false })
  rw [State.setWind_wind_self] at applied
  unfold Machine.qualify
  dsimp only
  generalize policyStep k (s.setWind k { s.wind k with faultMark := false }) = t at applied ⊢
  have ht : WindsSound t := fun j => by
    rw [wind_congr applied]
    exact (hs.setWind k unmarked).setWind k (w := { s.wind k with faultMark := false, window := window }) unmarked j
  have hf : (t.wind k).faultMark = false := by rw [wind_congr applied, State.setWind_wind_self]
  split
  · exact ht
  · rename_i p _
    have advanced : WindsSound (t.setWind k ((t.wind k).advance p x)) := ht.setWind k (ht k)
    have hf' : ((t.setWind k ((t.wind k).advance p x)).wind k).faultMark = false := by
      rw [State.setWind_wind_self]
      exact hf
    exact (advanced.judgeRaise k p _ hf').judgeClear k p _ ((judgeRaise_faultMark p _ _).trans hf')

theorem WindsSound.degrade {s : State} (hs : WindsSound s) (k : Crane) (p : Policy) (hc : (s.wind k).clearCount = 0) :
    WindsSound (degrade k p s).2 := by
  obtain ⟨alert, hold, stow, clear, fault, run⟩ := hs k
  have offered (t : State) (o : Offer) (h : WindsSound t) : WindsSound (offer o t) := h.within (offer_within o t)
  have written (o : Offer) (w : WindRec) : (offer o (s.setWind k w)).wind k = w := by
    rw [wind_congr ((offer_within _ _).winds rfl), State.setWind_wind_self]
  have others (o : Offer) (w : WindRec) (j : Crane) (hj : j ≠ k) : (offer o (s.setWind k w)).wind j = s.wind j := by
    rw [wind_congr ((offer_within _ _).winds rfl), State.setWind_wind_ne s k w j hj]
  unfold Machine.degrade
  dsimp only
  split
  · rename_i low
    intro j
    rw [wind_congr (setLevel_winds k .hold _), State.setWind_wind]
    split
    · rw [State.setWind_wind_self, written]
      exact ⟨fun _ => rfl, fun _ => rfl, nofun, fun _ => hc, fun _ => .inl rfl, run⟩
    · rename_i hj
      rw [State.setWind_wind_ne _ k _ j hj, others _ _ j hj]
      exact hs j
  · rename_i high
    refine offered _ _ (hs.setWind k ⟨alert, hold, stow, clear, fun _ => ?_, run⟩)
    cases hl : (s.wind k).level <;> simp [hl] at high ⊢

theorem WindsSound.takeFault {s : State} (hs : WindsSound s) (k : Crane) (p : Policy) : WindsSound (takeFault k p s).2 := by
  obtain ⟨alert, hold, stow, _, fault, _⟩ := hs k
  have counted : WindsSound (s.setWind k
      { s.wind k with pending := none, faultRun := min 255 ((s.wind k).faultRun + 1), clearCount := 0 }) :=
    hs.setWind k ⟨alert, hold, stow, fun _ => rfl, fault, Nat.min_le_left _ _⟩
  unfold Machine.takeFault
  dsimp only
  split
  · exact counted.degrade k p (by rw [State.setWind_wind_self])
  · exact counted

theorem WindsSound.judgeJump {s : State} (hs : WindsSound s) (k : Crane) (j x : Nat) : WindsSound (judgeJump k j x s).2 := by
  unfold Machine.judgeJump
  split
  · exact hs.qualify k x
  · exact hs.setWind k (hs k)

theorem WindsSound.takeReading {s : State} (hs : WindsSound s) (k : Crane) (p : Policy) (y : Nat) :
    WindsSound (takeReading k p y s).2 := by
  obtain ⟨alert, hold, stow, clear, fault, _⟩ := hs k
  have taken : WindsSound (s.setWind k { s.wind k with faultRun := 0, pending := none }) :=
    hs.setWind k ⟨alert, hold, stow, clear, fault, Nat.zero_le _⟩
  unfold Machine.takeReading
  dsimp only
  split
  · exact taken.judgeJump k _ _
  split
  · exact (taken.qualify k _).qualify k _
  · exact taken.judgeJump k _ _

theorem WindsSound.windOnPose {s : State} (hs : WindsSound s) (k : Crane) : WindsSound (windOnPose k s).2 := by
  unfold Machine.windOnPose
  split
  · exact hs
  split
  · unfold takeSample
    split
    · exact hs
    split
    · exact hs.takeFault k _
    · exact hs.takeReading k _ _
  · exact hs

/-! ### Levels forced and monitors initialised (R103, R115) -/

theorem WindsSound.forceStow {s : State} (hs : WindsSound s) (k : Crane) : WindsSound (forceStow k s).2 := by
  obtain ⟨_, _, _, _, fault, run⟩ := hs k
  exact hs.setWindLevel k ⟨fun _ => rfl, fun _ => rfl, fun _ => rfl, fun _ => rfl, fault, run⟩
    ⟨fun _ => rfl, fun _ => rfl, fun _ => rfl, fun _ => rfl, fun _ => .inr rfl, run⟩

theorem WindsSound.initialise {s : State} (hs : WindsSound s) (k : Crane) (running : Bool) :
    WindsSound (initialise k running s).2 := fun j => by
  unfold Machine.initialise
  dsimp only
  rw [State.setWind_wind]
  split
  · exact WindRec.initial_sound running
  · rename_i hj
    rw [wind_congr (setLevel_winds k .calm s), State.setWind_wind_ne s k _ j hj]
    exact hs j

theorem WindsSound.startVaning {s : State} (hs : WindsSound s) (k : Crane) (prof : Profile) :
    WindsSound (startVaning k prof s).2 := by
  unfold Machine.startVaning
  dsimp only
  exact (hs.forceStow k).within (enterPreparing_within k prof _)

theorem WindsSound.vaneOnPose {s : State} (hs : WindsSound s) (k : Crane) (levels : List WindLevel) (startUp : Bool) :
    WindsSound (vaneOnPose k levels startUp s).2 := by
  have abandoned := hs.within (foldl_within (judgeAbandon_within k) levels s)
  unfold Machine.vaneOnPose
  dsimp only
  split
  · exact abandoned
  split
  · exact abandoned.startVaning k _
  · exact abandoned.within (judgeEntry_within k _)

/-! ### The monitors through a step -/

theorem WindsSound.poseBlocks {s : State} (hs : WindsSound s) (k : Crane) (live : Bool) : WindsSound (poseBlocks k live s) := by
  unfold Machine.poseBlocks
  dsimp only
  refine WindsSound.within (WindsSound.within (WindsSound.vaneOnPose (WindsSound.windOnPose ?_ k) k _ _)
    (bookingOnPose_within k _ _ _)) (pendingCommitStep_within k _)
  split
  · exact ((hs.within (judgePose_within k s)).within (overrunCheck_within k _)).within (chartJudge_within k _)
  · exact hs

theorem WindsSound.acceptPose {s : State} (hs : WindsSound s) (k : Crane) (f : List Byte) : WindsSound (acceptPose k f s) := by
  have advanced : WindsSound (advancedPose k f s).2 :=
    WindsSound.within (WindsSound.within (hs.within (seqStep_within k _ s)) (recordPose_within k _ _))
      (advanceLane_within k _ _ _)
  rw [acceptPose_eq]
  exact WindsSound.within (WindsSound.within (advanced.poseBlocks k _) (forwardPose_within k _ _)) (substituteStop_within k _)

theorem WindsSound.startUpAtCommence {s : State} (hs : WindsSound s) (k : Crane) : WindsSound (startUpAtCommence s k) := by
  unfold Machine.startUpAtCommence
  split
  · exact hs
  rename_i prof _
  have vaned := hs.startVaning k prof
  split
  · dsimp only
    split
    · exact vaned
    · exact vaned.within (suspend_within k .wind _)
  · exact hs

theorem WindsSound.startOperating {s : State} (hs : WindsSound s) : WindsSound (startOperating s) := by
  refine startOperating_keeps s hs (fun t k ht => ?_) (fun t k ht => ht.within (markSettling_within k t))
    (fun t k ht => ht.within (runPresent_within t k)) (fun _ k ht => ht.startUpAtCommence k)
    (fun t k ht => ht.within (judgeResume_within k t))
  unfold startMonitor
  split
  · exact ht.initialise k true
  · exact ht

theorem WindsSound.restart {s : State} (hs : WindsSound s) (k : Crane) : WindsSound (restart k s) :=
  restart_keeps k s (hs.within (restartLane_within k s)) (fun t ht => ht.within (restartArbiter_within k t))
    (fun t ht => ht.within (setGov_within t k _)) (fun t ht => ht.within (setVaneRec_within k _ t))
    (fun _ b ht => ht.initialise k b) (fun t ht => ht.within (suspend_within k .lane t))
    (fun t ht => ht.within (clearCounters_within k t))

theorem windsSound_closed : StepClosed WindsSound := by
  refine stepClosed_of_pose_and_request (·.winds) (fun hs h hw => hs.touches h hw) (fun _ _ _ k => ?_)
    (fun k f _ hs => hs.acceptPose k f) (fun i s j hj hi hs => ?_) rfl
  · simp only [State.wind, State.reset, Fin.getElem_fin, Vector.getElem_replicate]
    exact WindRec.initial_sound false
  · cases i with
    | commence tag tgt =>
      cases hj
      show WindsSound (commence tgt s).2
      unfold commence
      split
      · exact hs
      split
      · exact hs
      split
      · exact hs
      · dsimp only
        exact hs.startOperating
    | siteReset tag tgt =>
      cases hj
      show WindsSound (siteReset tgt s).2
      unfold siteReset
      split
      · exact hs
      · have reset : WindsSound (resetBlocks (resetSite s)) := fun k => by
          simp only [State.wind, resetBlocks, Fin.getElem_fin, Vector.getElem_replicate]
          exact WindRec.initial_sound false
        exact (reset.within (foldl_within (fun t k => suspend_within k .reset t) _ _)).within (resetRecorder_within _)
    | craneRestart tag tgt =>
      cases hj
      show WindsSound (craneRestart tgt s).2
      unfold craneRestart
      split
      · exact hs
      · exact hs.restart _
    | _ => cases hi

/-- Settles O15: lanes, pose records and Wind Monitors, each kept sound by every operation of a step on its own. -/
theorem stepKeepsCraneRecordsSound : Obligations.StepKeepsCraneRecordsSound :=
  fun s t ht => ⟨step_keeps lanesSound_closed s t ht, step_keeps posesSound_closed s t ht,
    step_keeps windsSound_closed s t ht⟩

end Sys2Proof.Machine

/-! PROOFS. What the Zone Arbiter's operations are made of, said once: `AirClosed P` lists the ways in which an operation touches a
zone, and each operation of the blocks keeps a property that all of them keep. -/

namespace Sys2Proof.Machine

set_option Elab.async false

/-! ### Holders and kinds -/

theorem st_free_of_holder {r : ZoneRec} (h : r.holder = none) : r.st = .free := by
  unfold ZoneRec.holder at h
  split at h
  · assumption
  · cases h
  · cases h

theorem heldBy_eq_some {r : ZoneRec} {k : Crane} : r.heldBy = some k ↔ ∃ h t, r.st = .held k h t := by
  unfold ZoneRec.heldBy
  split
  · rename_i j h t hst
    constructor
    · rintro ⟨⟩
      exact ⟨h, t, hst⟩
    · rintro ⟨h', t', h''⟩
      rw [hst] at h''
      cases h''
      rfl
  · rename_i hne
    exact ⟨nofun, fun ⟨h, t, hst⟩ => absurd hst (hne k h t)⟩

theorem isHeldBy_iff {s : State} {k : Crane} {z : Zone} : isHeldBy s k z = true ↔ ∃ h t, (s.zone z).st = .held k h t := by
  rw [isHeldBy, beq_iff_eq, heldBy_eq_some]

theorem mem_currentLeg_of_kindFor {s : State} {k : Crane} {z : Zone} (h : kindFor s k z = .booking) :
    z ∈ currentLeg s k := by
  unfold kindFor at h
  split at h
  · rename_i hc
    exact List.contains_iff_mem.1 hc
  · cases h

/-! ### The ways to touch a zone -/

/-- A property that every way of touching a zone keeps. A hold of kind BOOKING is only ever made on the current leg (R44), a
zone is acquired only while it is FREE, and a crane joins the queue only of a zone another crane holds (R54, R55). -/
structure AirClosed (P : State → Prop) : Prop where
  frame : ∀ {w : Touch} {s t : State}, P s → Touches w s t → w.air = false → w.bookings = false → w.vanes = false → P t
  outcome : ∀ id (f : LiftOutcome → LiftOutcome) s, P s →
    P (updateBooking id (fun b => { b with outcome := f b.outcome }) s)
  arb : ∀ k a s, P s → P (s.setArb k a)
  acquire : ∀ k z h s, P s → (s.zone z).st = .free → (h = .booking → z ∈ currentLeg s k) → P (acquire k z h s)
  kind : ∀ k z h s, P s → (s.zone z).heldBy = some k → (h = .booking → z ∈ currentLeg s k) → P (setKind z h s)
  mark : ∀ z c s, P s → P (markVacate z c s)
  refresh : ∀ c z s, P s → P (refreshEntry c z s)
  remove : ∀ c z s, P s → P (removeEntry c z s)
  join : ∀ c z s, P s → (∃ j, (s.zone z).heldBy = some j ∧ j ≠ c) → P (joinQueue c z s)
  release : ∀ z s, P s → P (release z s)
  sweep : ∀ k z s, P s → P (sweepZone k s z)
  unpend : ∀ k z s, P s → P (unpendZone k s z)
  unsweep : ∀ k z taken h v s, P s → (s.zone z).st = .swept k taken → (h = .booking → z ∈ currentLeg s k) →
    (v = true → (s.zone z).vacate = true) → P (s.setZone z { s.zone z with st := .held k h taken, vacate := v })

namespace AirClosed

variable {P : State → Prop}

theorem within (h : AirClosed P) {w : Touch} {s t : State} (hs : P s) (hw : Within w s t) (air : w.air = false := by rfl)
    (bookings : w.bookings = false := by rfl) (vanes : w.vanes = false := by rfl) : P t :=
  h.frame hs hw.touches air bookings vanes

theorem offer (h : AirClosed P) (o : Offer) {s : State} (hs : P s) : P (offer o s) :=
  h.within hs (offer_within o s)

theorem trigger (h : AirClosed P) (t : TriggerKind) (k : Option Crane) (z : Option Zone) {s : State} (hs : P s) :
    P (trigger t k z s) :=
  h.within hs (trigger_within t k z s)

theorem count (h : AirClosed P) (k : Crane) (c : CounterId) (n : Nat) {s : State} (hs : P s) : P (count k c n s) :=
  h.within hs (count_within k c n s)

theorem ite {s t : State} {c : Prop} [Decidable c] (hs : P s) (ht : P t) : P (if c then s else t) := by
  split
  · exact hs
  · exact ht

/-! ### Marks, queues, waits and reservations (R53 to R56, R58) -/

theorem judgeLimit (h : AirClosed P) (z : Zone) {s : State} (hs : P s) : P (judgeLimit z s) :=
  ite (h.mark z _ s hs) hs

theorem settleEntry (h : AirClosed P) (c : Crane) (z : Zone) {s : State} (hs : P s) : P (settleEntry c z s) :=
  ite (h.refresh c z s hs) (h.remove c z s hs)

theorem withdrawWait (h : AirClosed P) (c : Crane) {s : State} (hs : P s) : P (withdrawWait c s) := by
  unfold Machine.withdrawWait
  split
  · exact hs
  · exact h.settleEntry c _ (h.arb c _ s hs)

theorem withdrawReservation (h : AirClosed P) (c : Crane) {s : State} (hs : P s) : P (withdrawReservation c s) := by
  unfold Machine.withdrawReservation
  split
  · exact hs
  · exact h.settleEntry c _ (h.arb c _ s hs)

theorem rejudgeEntries (h : AirClosed P) (c : Crane) {s : State} (hs : P s) : P (rejudgeEntries c s) := by
  have waited : P (match (s.arb c).motionWait with
      | none => s
      | some w => refreshEntry c w.zone s) := by
    split
    · exact hs
    · exact h.refresh c _ s hs
  unfold Machine.rejudgeEntries
  dsimp only
  split
  · exact waited
  · exact h.refresh c _ _ waited

theorem placeReservation (h : AirClosed P) (k : Crane) {s : State} (hs : P s) : P (placeReservation k s) := by
  unfold Machine.placeReservation
  split
  · exact h.withdrawReservation k hs
  · rename_i z hz
    obtain ⟨j, hj, hjk⟩ := waitable_held (reservationZone_waitable hz)
    dsimp only
    split
    · exact h.join k z _ (h.arb k _ s hs) ⟨j, hj, hjk⟩
    · refine h.join k z _ (h.arb k _ _ (h.withdrawReservation k hs)) ⟨j, ?_, hjk⟩
      rw [State.setArb_zone, heldBy_congr (withdrawReservation_st k z s), hj]

/-! ### Legs (R140, R141) -/

theorem takeLegZone (h : AirClosed P) (k : Crane) (z : Zone) {s : State} (hs : P s) (hz : z ∈ currentLeg s k) :
    P (takeLegZone k s z) := by
  unfold Machine.takeLegZone
  split
  · rename_i hst
    exact ite (h.acquire k z _ s hs hst fun _ => hz) hs
  · rename_i j kind taken hst
    split
    · rename_i hj
      obtain ⟨rfl, _⟩ := hj
      exact h.kind j z _ s hs (heldBy_eq_some.2 ⟨_, _, hst⟩) fun _ => hz
    · exact hs
  · exact hs

/-- The current leg is read from the bookings alone. -/
theorem currentLeg_congr {s t : State} (h : t.bookings = s.bookings) (k : Crane) : currentLeg t k = currentLeg s k := by
  unfold currentLeg activeBooking
  rw [h]

theorem takeLegZones (h : AirClosed P) (k : Crane) {s : State} (hs : P s) :
    P ((currentLeg s k).foldl (Machine.takeLegZone k) s) := by
  suffices ∀ (l : List Zone) (t : State), P t → t.bookings = s.bookings → (∀ z ∈ l, z ∈ currentLeg s k) →
      P (l.foldl (Machine.takeLegZone k) t) from this _ s hs rfl fun _ hz => hz
  intro l
  induction l with
  | nil => exact fun t ht _ _ => ht
  | cons z l ih =>
    intro t ht same leg
    refine ih _ (h.takeLegZone k z ht ?_) (((takeLegZone_within k t z).bookings rfl).trans same) fun y hy =>
      leg y (List.mem_cons_of_mem _ hy)
    rw [currentLeg_congr same]
    exact leg z List.mem_cons_self

theorem legEntry (h : AirClosed P) (k : Crane) {s : State} (hs : P s) : P (legEntry k s) :=
  h.rejudgeEntries k (h.placeReservation k (h.takeLegZones k hs))

theorem letGoZone (h : AirClosed P) (k : Crane) (f : List Occ) (keep : List Zone) (z : Zone) {s : State} (hs : P s) :
    P (letGoZone k f keep s z) := by
  unfold Machine.letGoZone
  split
  · rename_i held
    obtain ⟨kind, taken, hst⟩ := isHeldBy_iff.1 held.1
    exact ite (h.judgeLimit z (h.kind k z _ s hs (heldBy_eq_some.2 ⟨_, _, hst⟩) nofun)) (h.release z s hs)
  · exact hs

theorem letGo (h : AirClosed P) (k : Crane) (keep : List Zone) {s : State} (hs : P s) : P (letGo k keep s) :=
  foldl_keeps (fun _ z ht => h.letGoZone k _ keep z ht) _ _ hs

theorem giveUp (h : AirClosed P) (k : Crane) {s : State} (hs : P s) : P (giveUp k s) :=
  h.rejudgeEntries k (h.withdrawReservation k (h.letGo k [] hs))

/-! ### Motion waits and wait cycles (R54, R60 to R63) -/

theorem setYield (h : AirClosed P) (v : Crane) (z : Zone) {s : State} (hs : P s) : P (setYield v z s) :=
  h.offer _ (h.arb v _ s hs)

theorem markCycle (h : AirClosed P) (v : Crane) (members : List Crane) (also : Option Zone) {s : State} (hs : P s) :
    P (markCycle v members also s) :=
  foldl_keeps (fun t z ht => ite (h.mark z _ t ht) ht) _ _ hs

theorem yieldRequester (h : AirClosed P) (x : Crane) (z : Zone) (cs : List Crane) {s : State} (hs : P s) :
    P (yieldRequester x z cs s) :=
  h.markCycle x _ _ (h.setYield x z (h.withdrawWait x hs))

theorem yieldOther (h : AirClosed P) (x v : Crane) (z : Zone) (cs : List Crane) {s : State} (hs : P s) :
    P (yieldOther x v z cs s) := by
  unfold Machine.yieldOther
  split
  · exact hs
  · exact h.markCycle v _ _ (h.setYield v _ (h.withdrawWait v hs))

theorem markCycle_st (v : Crane) (members : List Crane) (also : Option Zone) (y : Zone) (s : State) :
    ((Machine.markCycle v members also s).zone y).st = (s.zone y).st := by
  refine foldl_keeps (P := fun t : State => (t.zone y).st = (s.zone y).st) (fun t z ht => ?_) _ _ rfl
  split
  · rw [markVacate_st, ht]
  · exact ht

theorem setYield_st (v : Crane) (z y : Zone) (s : State) : ((Machine.setYield v z s).zone y).st = (s.zone y).st := by
  rw [Machine.setYield, zone_congr (offer_air _ _), State.setArb_zone]

theorem yieldOther_st (x v : Crane) (z y : Zone) (cs : List Crane) (s : State) :
    ((Machine.yieldOther x v z cs s).zone y).st = (s.zone y).st := by
  unfold Machine.yieldOther
  split
  · rfl
  · rw [markCycle_st, setYield_st, withdrawWait_st]

theorem enqueueWait (h : AirClosed P) (k : Crane) (z : Zone) (u : Use) {s : State} (hs : P s)
    (other : ∃ j, (s.zone z).heldBy = some j ∧ j ≠ k) : P (enqueueWait k z u s) := by
  obtain ⟨j, hj, hjk⟩ := other
  refine h.arb k _ _ (h.join k z _ (h.arb k _ _ (ite hs (h.withdrawWait k hs))) ⟨j, ?_, hjk⟩)
  rw [State.setArb_zone]
  split
  · exact hj
  · rw [heldBy_congr (withdrawWait_st k z s), hj]

theorem requestWait (h : AirClosed P) (k : Crane) (z : Zone) (u : Use) {s : State} (hs : P s)
    (hw : waitable s k z u = true) : P (requestWait k z u s) := by
  obtain ⟨j, hj, hjk⟩ := waitable_held hw
  unfold Machine.requestWait
  split
  · exact hs
  split
  · exact h.enqueueWait k z u hs ⟨j, hj, hjk⟩
  · dsimp only
    refine ite (h.yieldRequester k z _ hs) (h.enqueueWait k z u (h.yieldOther k _ z _ hs) ⟨j, ?_, hjk⟩)
    rw [heldBy_congr (yieldOther_st _ _ _ _ _ _), hj]

theorem dropWait (h : AirClosed P) (k : Crane) {s : State} (hs : P s) : P (dropWait k s) :=
  h.arb k _ _ (h.withdrawWait k hs)

theorem reloadTimer (h : AirClosed P) (k : Crane) (v : PerAxis Int) {s : State} (hs : P s) : P (reloadTimer k v s) := by
  unfold Machine.reloadTimer
  split
  · exact hs
  split
  · exact hs
  · exact h.arb k _ s hs

/-! ### A pose judged (R47 to R50, R78) -/

theorem countIntrusion (h : AirClosed P) (k : Crane) {s : State} (hs : P s) : P (countIntrusion k s) := by
  have counted := h.count k .intrusions 1 hs
  unfold Machine.countIntrusion
  dsimp only
  split
  · exact counted
  · rename_i b _
    exact h.outcome b.id (fun o => { o with intrusions := some (min 65535 (o.intrusions.getD 0 + 1)) }) _ counted

theorem footprintZone (h : AirClosed P) (k : Crane) (f : List Occ) (settling : Bool) (old : List Zone) (z : Zone) {s : State}
    (hs : P s) : P (footprintZone k f settling old s z) := by
  unfold Machine.footprintZone
  split
  · exact hs
  split
  · exact ite hs (h.trigger _ _ _ (h.offer _ (h.count k _ 1 hs)))
  · rename_i hnone
    have free := st_free_of_holder hnone
    have entitled : P (Machine.acquire k z (kindFor s k z) s) := h.acquire k z _ s hs free mem_currentLeg_of_kindFor
    have barred : P (Machine.acquire k z .exitOnly s) := h.acquire k z _ s hs free nofun
    exact ite (ite entitled (h.trigger _ _ _ (h.offer _ (h.countIntrusion k entitled))))
      (ite (h.offer _ barred) (h.trigger _ _ _ (h.offer _ (h.countIntrusion k barred))))

theorem entitlementZone (h : AirClosed P) (k : Crane) (f : List Occ) (z : Zone) {s : State} (hs : P s) :
    P (entitlementZone k f s z) := by
  unfold Machine.entitlementZone
  split
  · exact hs
  split
  · rename_i held
    obtain ⟨kind, taken, hst⟩ := isHeldBy_iff.1 held.1
    exact h.trigger _ _ _ (h.offer _ (h.kind k z _ s hs (heldBy_eq_some.2 ⟨_, _, hst⟩) nofun))
  · exact hs

theorem footprintStep (h : AirClosed P) (k : Crane) (f : List Occ) (settling : Bool) {s : State} (hs : P s) :
    P (footprintStep k f settling s) :=
  foldl_keeps (fun _ z ht => h.entitlementZone k f z ht) _ _
    (h.arb k _ _ (foldl_keeps (fun _ z ht => h.footprintZone k f settling _ z ht) _ _ hs))

theorem toMotion (h : AirClosed P) (k : Crane) (z : Zone) {s : State} (hs : P s) (hk : (s.zone z).heldBy = some k) :
    P (toMotion z s) :=
  h.judgeLimit z (h.kind k z _ s hs hk nofun)

theorem releaseZone (h : AirClosed P) (k : Crane) (f reach : List Occ) (brake : Bool) (z : Zone) {s : State} (hs : P s) :
    P (releaseZone k f reach brake s z) := by
  have gone := h.release z s hs
  unfold Machine.releaseZone
  dsimp only
  split
  · exact hs
  · exact hs
  rename_i j kind taken hst
  have moved := h.toMotion j z hs (heldBy_eq_some.2 ⟨_, _, hst⟩)
  refine ite hs ?_
  cases kind with
  | exitOnly => exact ite hs gone
  | booking => exact ite gone hs
  | motion => exact ite (ite hs gone) (ite hs gone)
  | frozen => exact ite hs (ite (ite moved gone) (ite moved gone))

theorem releaseStep (h : AirClosed P) (k : Crane) (f reach : List Occ) (brake : Bool) {s : State} (hs : P s) :
    P (releaseStep k f reach brake s) :=
  foldl_keeps (fun _ z ht => h.releaseZone k f reach brake z ht) _ _ hs

theorem reachReleased (h : AirClosed P) (k : Crane) {s : State} (hs : P s) : P (reachReleased k s) :=
  h.releaseStep k _ _ _ (h.footprintStep k _ _ hs)

theorem overrunCheck (h : AirClosed P) (k : Crane) {s : State} (hs : P s) : P (overrunCheck k s) :=
  h.within hs (overrunCheck_within k s)

theorem noteChartOverrun (h : AirClosed P) (k : Crane) {s : State} (hs : P s) : P (noteChartOverrun k s) := by
  unfold Machine.noteChartOverrun
  split
  · rename_i b _ _ _ _ _
    exact ite (h.outcome b.id (fun o => { o with chartOverruns := some (min 255 (o.chartOverruns.getD 0 + 1)) }) _ hs) hs
  · exact hs

theorem chartJudge (h : AirClosed P) (k : Crane) {s : State} (hs : P s) : P (chartJudge k s) := by
  unfold Machine.chartJudge
  exact h.within (ite hs (h.noteChartOverrun k (h.offer _ hs))) (setGov_within _ k _)

theorem judgeLoad (h : AirClosed P) (id load : Nat) {s : State} (hs : P s) : P (judgeLoad id load s) := by
  unfold Machine.judgeLoad
  split
  · exact hs
  · exact ite (h.offer _ (h.outcome id (fun o => { o with loadAbove := some load }) _ hs)) hs

theorem noteLoad (h : AirClosed P) (k : Crane) {s : State} (hs : P s) : P (noteLoad k s) := by
  unfold Machine.noteLoad
  split
  · rename_i b p _ _
    exact h.judgeLoad _ _ (h.outcome b.id (fun o => { o with maxLoad := some (max (o.maxLoad.getD 0) p.load) }) _ hs)
  · exact hs

/-! ### Stale lanes and restarts (R64 to R66) -/

theorem freezeZone (h : AirClosed P) (k : Crane) (z : Zone) {s : State} (hs : P s) : P (freezeZone k s z) := by
  unfold Machine.freezeZone
  split
  · rename_i held
    obtain ⟨kind, taken, hst⟩ := isHeldBy_iff.1 held.1
    exact h.kind k z _ s hs (heldBy_eq_some.2 ⟨_, _, hst⟩) nofun
  · exact hs

theorem freeze (h : AirClosed P) (k : Crane) {s : State} (hs : P s) : P (freeze k s) :=
  h.withdrawWait k (foldl_keeps (fun _ z ht => h.freezeZone k z ht) _ _ hs)

theorem widenZone (h : AirClosed P) (k : Crane) (w : List Occ) (z : Zone) {s : State} (hs : P s) : P (widenZone k w s z) := by
  unfold Machine.widenZone
  split
  · exact hs
  split
  · rename_i hnone
    exact ite (h.acquire k z _ s hs (st_free_of_holder hnone) nofun) hs
  · exact ite hs (h.offer _ hs)

theorem widen (h : AirClosed P) (k : Crane) {s : State} (hs : P s) : P (widen k s) :=
  foldl_keeps (fun _ z ht => h.widenZone k _ z ht) _ _ hs

theorem leaveLive (h : AirClosed P) (k : Crane) {s : State} (hs : P s) : P (leaveLive k s) :=
  h.arb k _ _ (h.withdrawWait k hs)

theorem becomeLive (h : AirClosed P) (k : Crane) {s : State} (hs : P s) : P (becomeLive k s) :=
  h.arb k _ _ (h.within (h.within hs (setLaneState_within k .live s)) (startTstale_within k _))

theorem advanceLane (h : AirClosed P) (k : Crane) (last : Option Nat) (seq : Nat) {s : State} (hs : P s) :
    P (advanceLane k last seq s).2 := by
  have written (l : Lane) : P (s.setLane k l) := h.within hs (setLane_within s k l)
  unfold Machine.advanceLane
  dsimp only
  split
  · split
    · exact written _
    · exact ite (h.arb k _ _ (h.becomeLive k (written _))) (h.becomeLive k (written _))
  · exact written _
  · exact h.becomeLive k (written _)
  · exact h.within (written _) (setLaneState_within k _ _)

end AirClosed

end Sys2Proof.Machine

/-! PROOFS. What the blocks are made of, said once: `BlockClosed P` adds to the ways of touching a zone the operations of the
Booking Table and the resets, and a property that all of them keep is kept by every step. -/

namespace Sys2Proof.Machine

set_option Elab.async false

/-! ### Zones ahead -/

theorem free_of_acquirable {s : State} {k : Crane} {z : Zone} {u : Use} (h : classify s k z u = .acquirable) :
    (s.zone z).st = .free := by
  unfold classify at h
  split at h
  · assumption
  · split at h <;> cases h
  · cases h

/-- A filter that names each element it keeps names a sublist. -/
theorem map_filterMap_sublist {α β : Type} (f : α → Option β) (name : β → α) (h : ∀ a b, f a = some b → name b = a)
    (l : List α) : ((l.filterMap f).map name).Sublist l := by
  induction l with
  | nil => exact List.Sublist.slnil
  | cons a l ih =>
    rw [List.filterMap_cons]
    split
    · exact ih.cons a
    · rename_i b hb
      rw [List.map_cons, h a b hb]
      exact ih.cons_cons a

theorem allZones_nodup : allZones.Nodup := List.nodup_finRange 64

theorem zonesInClass_eq_some {s : State} {k : Crane} {f : List Occ} {c : ZoneClass} {o : Occ}
    (h : o ∈ zonesInClass s k f c) : useIn f o.zone = some o.use ∧ classify s k o.zone o.use = c := by
  obtain ⟨z, -, hz⟩ := List.mem_filterMap.1 h
  split at hz
  · cases hz
  · rename_i u hu
    split at hz
    · cases hz
      exact ⟨hu, by assumption⟩
    · cases hz

theorem zonesInClass_nodup (s : State) (k : Crane) (f : List Occ) (c : ZoneClass) :
    ((zonesInClass s k f c).map (·.zone)).Nodup := by
  refine (map_filterMap_sublist _ _ (fun z o h => ?_) allZones).nodup allZones_nodup
  split at h
  · cases h
  · split at h
    · cases h
      rfl
    · cases h

theorem id_of_findBooking {s : State} {id : Nat} {b : Booking} (h : findBooking s id = some b) : b.id = id :=
  beq_iff_eq.1 (List.find?_some (p := fun b : Booking => b.id == id) h)

namespace AirClosed

variable {P : State → Prop}

/-! ### A demand governed (R84 to R99) -/

theorem takeAheads (h : AirClosed P) (k : Crane) (l : List Zone) {s : State} (hs : P s) (distinct : l.Nodup)
    (free : ∀ z ∈ l, (s.zone z).st = .free) : P (l.foldl (takeAhead k) s) := by
  induction l generalizing s with
  | nil => exact hs
  | cons z l ih =>
    obtain ⟨hz, distinct⟩ := List.nodup_cons.1 distinct
    refine ih (h.acquire k z _ s hs (free z List.mem_cons_self) mem_currentLeg_of_kindFor) distinct fun y hy => ?_
    rw [takeAhead, Machine.acquire, State.setZone_zone_ne _ _ _ _ (ne_of_mem_of_not_mem hy hz)]
    exact free y (List.mem_cons_of_mem _ hy)

theorem scanFrom (h : AirClosed P) (k : Crane) (p : Pose) (positive take : Bool) (reach left j : Nat) {s : State}
    (hs : P s) : P (scanFrom k p positive take reach left j s).2 := by
  induction left generalizing j s with
  | zero => exact hs
  | succ left ih =>
    unfold Machine.scanFrom
    dsimp only
    split
    · exact hs
    · have taken : P (if take then ((zonesInClass s k (footprintAt s k p (sectorStep positive (sectorOf p.theta) j))
          .acquirable).map (·.zone)).foldl (takeAhead k) s else s) := by
        refine ite (h.takeAheads k _ hs (zonesInClass_nodup _ _ _ _) fun z hz => ?_) hs
        obtain ⟨o, ho, rfl⟩ := List.mem_map.1 hz
        exact free_of_acquirable (zonesInClass_eq_some ho).2
      split
      · exact taken
      · exact ih _ taken

theorem slewScan (h : AirClosed P) (k : Crane) (p : Pose) (prof : Profile) (positive take : Bool) (v : Nat) {s : State}
    (hs : P s) : P (slewScan k p prof positive take v s).2 := by
  unfold Machine.slewScan
  dsimp only
  split
  · exact hs
  · have scanned := h.scanFrom k p positive take (stopDist prof.dyn.slew v + prof.dyn.slew.clearance) 128 1 hs
    split <;> (rename_i heq; rw [heq] at scanned; exact scanned)

theorem trolleyScan (h : AirClosed P) (k : Crane) (p : Pose) (prof : Profile) (outward : Bool) (v : Nat) {s : State}
    (hs : P s) : P (trolleyScan k p prof outward v s).2 := by
  unfold Machine.trolleyScan
  split
  · exact hs
  · refine h.takeAheads k _ hs (allZones_nodup.filter _) fun z hz => ?_
    obtain ⟨c, -, hc⟩ := List.any_eq_true.1 (List.mem_filter.1 hz).2
    simp only [Bool.and_eq_true] at hc
    obtain ⟨-, hc⟩ := hc
    split at hc
    · cases hc
    · simp only [Bool.and_eq_true, beq_iff_eq] at hc
      exact free_of_acquirable hc.1.1.2

theorem hoistLower (h : AirClosed P) (k : Crane) (p : Pose) (prof : Profile) (v : Nat) {s : State} (hs : P s) :
    P (hoistLower k p prof v s).2 := by
  refine h.takeAheads k _ hs ((allZones_nodup.filter _).filter _) fun z hz => ?_
  have hc := (List.mem_filter.1 hz).2
  simp only [Bool.and_eq_true, beq_iff_eq] at hc
  exact free_of_acquirable hc.1.1

theorem searchAxis (h : AirClosed P) (k : Crane) (p : Pose) (prof : Profile) (a : Axis) (q : Int) (v : Nat) {s : State}
    (hs : P s) : P (searchAxis k p prof a q v s).2 := by
  cases a with
  | slew => exact h.slewScan k p prof _ _ v hs
  | trolley => exact h.trolleyScan k p prof _ v hs
  | hoist =>
    unfold Machine.searchAxis
    dsimp only
    split
    · exact h.hoistLower k p prof v hs
    · exact hs

theorem evalAxis (h : AirClosed P) (k : Crane) (p : Pose) (prof : Profile) (a : Axis) (q : Int) {s : State} (hs : P s) :
    P (evalAxis k p prof a q s).2 := by
  unfold Machine.evalAxis
  dsimp only
  split
  · exact hs
  split
  · exact hs
  · exact h.searchAxis k p prof a q _ hs

theorem waitableCauses_waitable {s : State} {k : Crane} {b : Option Boundary} {o : Occ} (ho : o ∈ waitableCauses s k b) :
    waitable s k o.zone o.use = true := by
  unfold waitableCauses at ho
  split at ho
  · cases ho
  · obtain ⟨c, -, hc⟩ := List.mem_filterMap.1 ho
    split at hc
    · split at hc
      · cases hc
        assumption
      · cases hc
    all_goals cases hc

theorem placeWait (h : AirClosed P) (k : Crane) (bs : List (Option Boundary)) {s : State} (hs : P s) :
    P (placeWait k bs s) := by
  unfold Machine.placeWait
  split
  · exact h.dropWait k hs
  · rename_i o ho
    obtain ⟨b, -, hb⟩ := List.mem_filterMap.1 (List.mem_of_mem_head? ho)
    exact h.requestWait k _ _ hs (waitableCauses_waitable (List.mem_of_find?_eq_some hb))

theorem evaluate (h : AirClosed P) (k : Crane) (p : Pose) (prof : Profile) (q : PerAxis Int) {s : State} (hs : P s) :
    P (evaluate k p prof q s).2 := by
  have axes := h.evalAxis k p prof .hoist q.hoist (h.evalAxis k p prof .trolley q.trolley (h.evalAxis k p prof .slew q.slew hs))
  exact h.within (h.within (h.placeWait k _ axes) (countClamps_within k _ _)) (setGov_within _ k _)

theorem govern (h : AirClosed P) (k : Crane) (q : PerAxis Int) {s : State} (hs : P s) : P (govern k q s).2 := by
  have zeroed : P (zeroDemand k q s).2 := h.within hs (zeroDemand_within k q s)
  unfold Machine.govern
  split
  · exact zeroed
  split
  · exact h.evaluate k _ _ q hs
  · exact zeroed

/-! ### The return of swept zones and a restart (R66, R125) -/

theorem unpendZones (h : AirClosed P) (k : Crane) {s : State} (hs : P s) : P (allZones.foldl (unpendZone k) s) :=
  foldl_keeps (fun t z ht => h.unpend k z t ht) _ _ hs

theorem returnZone (h : AirClosed P) (k : Crane) (f : List Occ) (z : Zone) {s : State} (hs : P s) :
    P (returnZone k f s z) := by
  unfold Machine.returnZone
  dsimp only
  split
  · exact hs
  · exact hs
  rename_i j taken hst
  split
  · exact hs
  rename_i hj
  rw [not_not] at hj
  subst hj
  have back (kind : HoldKind) (hk : kind = .booking → z ∈ currentLeg s j) :
      P (s.setZone z { s.zone z with st := .held j kind taken, vacate := false }) :=
    h.unsweep j z taken kind false s hs hst hk nofun
  split
  · exact h.release z s hs
  · exact ite (back _ nofun)
      (ite (h.judgeLimit z (back _ mem_currentLeg_of_kindFor)) (h.offer _ (back _ nofun)))

theorem restartArbiter (h : AirClosed P) (k : Crane) {s : State} (hs : P s) : P (restartArbiter k s) := by
  have unswept (z : Zone) {t : State} (ht : P t) : P (unsweepZone k t z) := by
    unfold unsweepZone
    split
    · exact ht
    · exact ht
    · rename_i j taken hst
      split
      · rename_i hj
        subst hj
        exact h.unsweep j z taken .frozen (t.zone z).vacate t ht hst nofun id
      · exact ht
  have frozen := foldl_keeps (P := P) (fun _ z ht => h.freezeZone k z ht) allZones s hs
  exact h.arb k _ _ (ite (h.withdrawReservation k (h.withdrawWait k (h.unpendZones k
    (foldl_keeps (fun _ z ht => unswept z ht) _ _ frozen)))) hs)

/-! ### Structural commits (R16 to R18) -/

theorem reconcile (h : AirClosed P) (k : Crane) {s : State} (hs : P s) : P (reconcile k s) := by
  have taken (f : List Occ) (z : Zone) {t : State} (ht : P t) : P (reconcileZone k f t z) := by
    unfold reconcileZone
    split
    · rename_i hnone
      have free := st_free_of_holder hnone
      exact ite (h.acquire k z _ t ht free nofun) (h.offer _ (h.acquire k z _ t ht free nofun))
    · exact ht
  have gone (f : List Occ) (z : Zone) {t : State} (ht : P t) : P (reconcileRelease k f t z) :=
    ite (h.release z t ht) ht
  exact foldl_keeps (fun _ z ht => gone _ z ht) _ _ (foldl_keeps (fun _ z ht => taken _ z ht) _ _ hs)

theorem activate (h : AirClosed P) (k : Crane) (c : StructuralCommit) {s : State} (hs : P s) : P (activate k c s) :=
  h.within hs (setSite_within s _)

theorem tryApply (h : AirClosed P) (k : Crane) (c : StructuralCommit) {s : State} (hs : P s) : P (tryApply k c s).2 := by
  unfold Machine.tryApply
  split
  · dsimp only
    exact h.reconcile k (h.activate k c hs)
  · exact hs

theorem commitResult (h : AirClosed P) (k : Crane) (tag : Option Byte) (outcome : Nat) {s : State} (hs : P s) :
    P (commitResult k tag outcome s) :=
  h.offer _ hs

theorem keepBlocked (h : AirClosed P) (k : Crane) (c : StructuralCommit) (zs : List Zone) {s : State} (hs : P s) :
    P (keepBlocked k c zs s) :=
  h.within hs (keepBlocked_within k c zs s)

theorem pendingCommitStep (h : AirClosed P) (k : Crane) {s : State} (hs : P s) : P (pendingCommitStep k s) := by
  unfold Machine.pendingCommitStep
  split
  · exact hs
  rename_i c _
  split
  · have applied := h.tryApply k c (h.within hs (setStructural_within k none s))
    dsimp only
    split
    · rename_i heq
      rw [heq] at applied
      exact h.commitResult k _ _ (h.within applied (setStructuralTag_within k none _))
    · exact h.keepBlocked k c _ hs
  · exact hs

/-! ### Permissions (R69 to R80) -/

theorem reexamine (h : AirClosed P) (before : State) {s : State} (hs : P s) : P (reexamine before s) := by
  have examined (z : Zone) {t : State} (ht : P t) : P (reexamineZone before t z) := by
    unfold reexamineZone
    split
    · exact ht
    · exact ht
    · rename_i k kind taken hst
      split
      · split
        · exact h.release z t ht
        · exact ite ht (h.offer _ (h.kind k z _ t ht (heldBy_eq_some.2 ⟨_, _, hst⟩) nofun))
      · exact ht
  have restored (z : Zone) {t : State} (ht : P t) : P (restoreZone before t z) := by
    unfold restoreZone
    split
    · exact ht
    · exact ht
    · rename_i k kind taken hst
      split
      · split
        · exact ht
        · exact ite
            (h.judgeLimit z (h.kind k z _ t ht (heldBy_eq_some.2 ⟨_, _, hst⟩) mem_currentLeg_of_kindFor)) ht
      · exact ht
  exact foldl_keeps (fun _ z ht => restored z ht) _ _ (foldl_keeps (fun _ z ht => examined z ht) _ _ hs)

theorem expireOverride (h : AirClosed P) (z : Zone) {s : State} (hs : P s) : P (expireOverride z s) :=
  h.reexamine s (h.offer _ (h.within hs (revertPerm_within z s)))

theorem expireGrant (h : AirClosed P) (g : Grant) {s : State} (hs : P s) : P (expireGrant g s) :=
  h.reexamine s (h.offer _ (h.within hs (setGrants_within s _)))

theorem applyZoneTable (h : AirClosed P) (t : ZoneTable) {s : State} (hs : P s) : P (applyZoneTable t s) :=
  foldl_keeps (fun _ z ht => h.judgeLimit z ht) _ _ (h.reexamine s
    (foldl_keeps (fun u z ht => h.within ht (alignPerm_within _ u z)) _ _ (h.within hs (setSite_within s _))))

/-! ### COMMIT (R13) -/

theorem takeStructural (h : AirClosed P) (k : Crane) (tag : Byte) (c : StructuralCommit) {s : State} (hs : P s) :
    P (takeStructural k tag c s).2 := by
  have replaced := h.within (h.within hs (setStaging_within s k _)) (replaceStructural_within k (emptySlots k c s))
  unfold Machine.takeStructural
  dsimp only
  split
  · dsimp only
    exact h.activate k c replaced
  split
  · have applied := h.tryApply k c replaced
    split
    · rename_i heq
      rw [heq] at applied
      exact applied
    · dsimp only
      exact h.within (h.keepBlocked k c _ replaced) (setStructuralTag_within k _ _)
  · dsimp only
    exact h.within (h.within replaced (setStructural_within k _ _)) (setStructuralTag_within k _ _)

theorem commit (h : AirClosed P) (tag : Byte) (tgt : Target) (set : Byte) {s : State} (hs : P s) :
    P (commit tag tgt set s).2 := by
  have structural (k : Crane) (p m c : Bool) : P (commitStructural k tag p m c s).2 := by
    unfold commitStructural judgeStructural
    dsimp only
    repeat' split
    all_goals first | exact hs | exact h.takeStructural k tag _ hs
  have policy (k : Crane) : P (commitPolicy k tag s).2 := h.within hs (commitPolicy_within k tag s)
  have table : P (commitZoneTable s).2 := by
    unfold commitZoneTable
    split
    · exact hs
    split
    · exact hs
    split
    · exact hs
    · dsimp only
      exact h.applyZoneTable _ hs
  unfold Machine.commit commitForSite commitForCrane
  repeat' split
  all_goals first | exact hs | exact table | exact policy _ | exact structural _ _ _ _

end AirClosed

/-- A property that every way of touching a zone, every operation of the Booking Table and every reset keeps. -/
structure BlockClosed (P : State → Prop) : Prop extends AirClosed P where
  vane : ∀ s t, P s → Within { vanes := true } s t → P t
  suspend : ∀ k why s, P s → P (suspend k why s)
  resume : ∀ k s, P s → P (judgeResume k s)
  starts : ∀ k b s, P s → findBooking s b.id = some b → b.crane = k → beginRefusal k b s = none → P (beginLift k b s)
  advance : ∀ k b s, P s → findBooking s b.id = some b → b.crane = k → b.state = .active → b.leg < b.route.length →
    P (advanceLeg k b s)
  finish : ∀ k b s, P s → findBooking s b.id = some b → b.crane = k → b.state = .active → P (endLift k b s)
  cancel : ∀ b s, P s → findBooking s b.id = some b → b.state.terminal = false → P (cancelLift b s)
  opened : ∀ b s, P s → b ∈ s.bookings → b.state = .logged → P (openWindow b.id s)
  closed : ∀ b s, P s → findBooking s b.id = some b → P (closeWindow b s)
  book : ∀ id p b s, P s → admission s id p = .ok b → P (s.setBookings (s.bookings ++ [b]))
  retire : ∀ b s, P s → findBooking s b.id = some b → b.state.terminal = true →
    P (s.setBookings (s.bookings.filter fun c => !(c.id == b.id)))
  reset : ∀ s, P s → P (resetBlocks (resetSite s))
  powerOn : ∀ pending sent free, P { State.reset with pending := pending, sent := sent, freeCount := free }

namespace BlockClosed

variable {P : State → Prop}

theorem haltState (h : BlockClosed P) (k : Crane) {s : State} (hs : P s) : P (haltState k s) := by
  unfold Machine.haltState
  split
  · exact hs
  · exact h.suspend k _ _ (h.within hs (setControl_within k _ s))

theorem runState (h : BlockClosed P) (k : Crane) {s : State} (hs : P s) : P (runState k s) := by
  unfold Machine.runState
  split
  · exact hs
  · exact h.resume k _ (h.within hs (setControl_within k _ s))

/-! ### Booking steps (R137 to R144) -/

theorem bookingStep (h : BlockClosed P) (k : Crane) (step id : Nat) {s : State} (hs : P s) :
    P (bookingStep k step id s).2 := by
  have begun (b : Booking) (hb : findBooking s b.id = some b) (hk : b.crane = k) : P (stepBegin k b s).2 := by
    unfold stepBegin
    split
    · exact hs
    · dsimp only
      exact h.starts k b s hs hb hk (by assumption)
  have advanced (b : Booking) (hb : findBooking s b.id = some b) (hk : b.crane = k) : P (stepLegDone k b s).2 := by
    unfold stepLegDone
    split
    · split
      · dsimp only
        exact h.advance k b s hs hb hk (by assumption) (by assumption)
      · exact hs
    all_goals exact hs
  have ended (b : Booking) (hb : findBooking s b.id = some b) (hk : b.crane = k) : P (stepEnd k b s).2 := by
    unfold stepEnd
    split
    · dsimp only
      exact h.finish k b s hs hb hk (by assumption)
    all_goals exact hs
  have abandoned (b : Booking) (hb : findBooking s b.id = some b) : P (stepAbandon b s).2 := by
    unfold stepAbandon
    split
    · exact hs
    · exact h.cancel b s hs hb (by simpa using ‹¬b.state.terminal = true›)
  unfold Machine.bookingStep
  split
  · exact hs
  split
  · exact hs
  rename_i b hb
  obtain rfl := id_of_findBooking hb
  split
  · exact hs
  rename_i hk
  rw [not_not] at hk
  split
  · exact begun b hb hk
  split
  · exact advanced b hb hk
  split
  · exact ended b hb hk
  · exact abandoned b hb

theorem acceptDemand (h : BlockClosed P) (k : Crane) (f : List Byte) {s : State} (hs : P s) : P (acceptDemand k f s) := by
  have stepped (d : DemandIn) {t : State} (ht : P t) : P (stepOnDemand k d t) := by
    unfold stepOnDemand
    split
    · exact ht
    · exact h.within (h.bookingStep k d.step d.booking ht) (setLane_within _ k _)
  exact h.reloadTimer k _ (h.within (h.govern k _ (stepped _ (h.within hs (cabStep_within k s)))) (sendDemand_within k _ _ _ _ _))

/-! ### Vane Control (R119 to R130) -/

theorem enterPreparing (h : BlockClosed P) (k : Crane) (prof : Profile) {s : State} (hs : P s) :
    P (enterPreparing k prof s) := by
  have swept (zs : List Zone) {t : State} (ht : P t) : P (zs.foldl (sweepZone k) t) :=
    foldl_keeps (fun t z ht => h.sweep k z t ht) zs t ht
  have begun (v : VaneRec) : P (Machine.withdrawWait k (setVaneRec k v s)) := h.withdrawWait k (h.vane _ _ hs (setVaneRec_within k v s))
  unfold Machine.enterPreparing checkVaning
  dsimp only
  split
  · exact h.vane _ _ (swept _ (begun _)) (setVaneRec_within k _ _)
  · exact swept _ (begun _)

theorem judgeEntry (h : BlockClosed P) (k : Crane) {s : State} (hs : P s) : P (judgeEntry k s) := by
  unfold Machine.judgeEntry
  split
  · exact hs
  · exact AirClosed.ite (h.enterPreparing k _ hs) hs

theorem startVaning (h : BlockClosed P) (k : Crane) (prof : Profile) {s : State} (hs : P s) : P (startVaning k prof s).2 := by
  have forced : P (forceStow k s).2 := h.within hs (forceStow_within k s)
  unfold Machine.startVaning
  dsimp only
  exact h.enterPreparing k prof forced

theorem returnSwept (h : BlockClosed P) (k : Crane) {s : State} (hs : P s) : P (returnSwept k s) := by
  have returned (f : List Occ) {t : State} (ht : P t) : P (allZones.foldl (Machine.returnZone k f) t) :=
    foldl_keeps (fun _ z hu => h.returnZone k f z hu) _ _ ht
  unfold Machine.returnSwept
  dsimp only
  exact h.vane _ _ (returned _ (h.unpendZones k hs)) (setVaneRec_within k _ _)

theorem judgeAbandon (h : BlockClosed P) (k : Crane) (l : WindLevel) {s : State} (hs : P s) : P (judgeAbandon k s l) :=
  AirClosed.ite (h.returnSwept k hs) hs

theorem vaneOnPose (h : BlockClosed P) (k : Crane) (levels : List WindLevel) (startUp : Bool) {s : State} (hs : P s) :
    P (vaneOnPose k levels startUp s).2 := by
  have abandoned : P (levels.foldl (Machine.judgeAbandon k) s) := foldl_keeps (fun _ l ht => h.judgeAbandon k l ht) _ _ hs
  unfold Machine.vaneOnPose
  dsimp only
  split
  · exact abandoned
  split
  · exact h.startVaning k _ abandoned
  · exact h.judgeEntry k abandoned

/-! ### The pose path (R27, R46 to R50, R147, R148) -/

theorem judgePose (h : BlockClosed P) (k : Crane) {s : State} (hs : P s) : P (judgePose k s) := by
  have judged : P ((reachReleased k s).setArb k { (reachReleased k s).arb k with settling := false }) :=
    h.arb k _ _ (h.reachReleased k hs)
  unfold Machine.judgePose
  exact AirClosed.ite judged (foldl_keeps (fun _ j ht => h.haltState j ht) _ _ (h.haltState k judged))

theorem bookingOnPose (h : BlockClosed P) (k : Crane) (levels : List WindLevel) (judge : Bool) {s : State} (hs : P s) :
    P (bookingOnPose k levels judge s) := by
  have changed := foldl_keeps (P := P) (f := fun t l => if l = .stow then Machine.suspend k .wind t else judgeResume k t)
    (fun t l ht => AirClosed.ite (h.suspend k .wind t ht) (h.resume k t ht)) levels s hs
  exact h.noteLoad k (AirClosed.ite (h.resume k _ changed) changed)

theorem poseBlocks (h : BlockClosed P) (k : Crane) (live : Bool) {s : State} (hs : P s) : P (poseBlocks k live s) := by
  have judged : P (if s.mode == .operating && (s.lane k).state == .live
      then chartJudge k (overrunCheck k (Machine.judgePose k s)) else s) :=
    AirClosed.ite (h.chartJudge k (h.overrunCheck k (h.judgePose k hs))) hs
  exact h.pendingCommitStep k (h.bookingOnPose k _ _ (h.vaneOnPose k _ _ (h.within judged (windOnPose_within k _))))

theorem acceptPose (h : BlockClosed P) (k : Crane) (f : List Byte) {s : State} (hs : P s) : P (acceptPose k f s) :=
  h.within (h.within (h.poseBlocks k _ (h.advanceLane k _ _ (h.within (h.within hs (seqStep_within k _ s))
    (recordPose_within k _ _)))) (forwardPose_within k _ _)) (substituteStop_within k _)

/-! ### Lane timers (R29 to R33) -/

theorem becomeStale (h : BlockClosed P) (k : Crane) {s : State} (hs : P s) : P (becomeStale k s) := by
  have stopped : P (startTlost k (setLaneState k .stale (s.setLane k { s.lane k with tstale := none }))) :=
    h.within (h.within (h.within hs (setLane_within s k _)) (setLaneState_within k _ _)) (startTlost_within k _)
  exact h.suspend k _ _ (h.within (h.leaveLive k (AirClosed.ite (h.widen k (h.freeze k stopped)) stopped))
    (clearMarks_within k _))

theorem becomeLost (h : BlockClosed P) (k : Crane) {s : State} (hs : P s) : P (becomeLost k s) :=
  h.trigger _ _ _ (h.haltState k (h.within (h.within hs (setLane_within s k _)) (setLaneState_within k _ _)))

/-! ### Modes (R164 to R166) -/

theorem restart (h : BlockClosed P) (k : Crane) {s : State} (hs : P s) : P (restart k s) :=
  h.within (h.suspend k _ _ (h.within (h.vane _ _ (h.within (h.restartArbiter k (h.within hs (restartLane_within k s)))
    (setGov_within _ k _)) (setVaneRec_within k _ _)) (initialise_within k _ _))) (clearCounters_within k _)

theorem startOperating (h : BlockClosed P) {s : State} (hs : P s) : P (startOperating s) := by
  have operating : P { s with mode := .operating } :=
    h.frame (w := {}) hs (Within.refl _ _) rfl rfl rfl
  have vaned (k : Crane) {t : State} (ht : P t) : P (startUpAtCommence t k) := by
    unfold startUpAtCommence
    split
    · exact ht
    · rename_i prof _
      have vaned := h.startVaning k prof ht
      dsimp only
      exact AirClosed.ite (AirClosed.ite vaned (h.suspend k _ _ vaned)) ht
  exact foldl_keeps (fun t k ht => h.resume k t ht) _ _
    (foldl_keeps (fun _ k ht => vaned k ht) _ _
      (foldl_keeps (fun t k ht => h.within ht (runPresent_within t k)) _ _
        (foldl_keeps (fun t k ht => h.arb k _ t ht) _ _
          (foldl_keeps (fun t k ht => h.within ht (startMonitor_within t k)) _ _ operating))))

end BlockClosed

end Sys2Proof.Machine

/-! PROOFS. Every step of a property that the blocks keep; and the zone records (R43, R53, R59). -/

namespace Sys2Proof.Machine

set_option Elab.async false

/-! ### Expiries SET SITE TIME takes (R168) -/

theorem mem_of_chooseDue {α : Type} {s : State} {ds : List α} {d : α} (h : chooseDue s ds = some d) : d ∈ ds := by
  unfold chooseDue at h
  split at h
  · cases h
  · cases h
    exact List.mem_cons_self
  · exact List.mem_of_getElem? h

theorem mem_siteDues_of_earliest {t : Nat} {s : State} {d : SiteDue} (h : d ∈ earliestDues t s) :
    ∃ i ≤ t, (i, d) ∈ siteDues s := by
  obtain ⟨⟨i, d'⟩, hd, rfl⟩ := List.mem_map.1 h
  obtain ⟨hd, ht⟩ := List.mem_filter.1 (List.mem_filter.1 hd).1
  exact ⟨i, by simpa using ht, hd⟩

/-- A pending open event is that of a LOGGED booking (R135). -/
theorem logged_of_windowOpen {s : State} {i id : Nat} (h : (i, SiteDue.windowOpen id) ∈ siteDues s) :
    ∃ b ∈ s.bookings, b.id = id ∧ b.state = .logged := by
  unfold siteDues at h
  rcases List.mem_append.1 h with h | h
  · rcases List.mem_append.1 h with h | h
    · obtain ⟨z, -, hz⟩ := List.mem_filterMap.1 h
      obtain ⟨_, _, e⟩ := Option.map_eq_some_iff.1 hz
      cases e
    · obtain ⟨g, -, hg⟩ := List.mem_filterMap.1 h
      obtain ⟨_, _, e⟩ := Option.map_eq_some_iff.1 hg
      cases e
  · obtain ⟨b, hb, due⟩ := List.mem_filterMap.1 h
    unfold windowDue at due
    split at due
    · cases due
      exact ⟨b, hb, rfl, by assumption⟩
    split at due
    · cases due
    · cases due

namespace BlockClosed

variable {P : State → Prop}

theorem takeSiteDue (h : BlockClosed P) {s : State} (hs : P s) {i : Nat} {d : SiteDue} (hd : (i, d) ∈ siteDues s) :
    P (takeSiteDue s d) := by
  unfold Machine.takeSiteDue
  split
  · exact h.expireOverride _ hs
  · split
    · exact hs
    · exact h.expireGrant _ hs
  · obtain ⟨b, hb, rfl, logged⟩ := logged_of_windowOpen hd
    exact h.opened b s hs hb logged
  · split
    · exact hs
    · rename_i hb
      obtain rfl := id_of_findBooking hb
      exact h.closed _ s hs hb

theorem takeDues (h : BlockClosed P) (t fuel : Nat) {s : State} (hs : P s) : P (takeDues t fuel s) := by
  induction fuel generalizing s with
  | zero => exact hs
  | succ fuel ih =>
    rw [Machine.takeDues]
    split
    · exact hs
    · rename_i d hd
      obtain ⟨i, -, due⟩ := mem_siteDues_of_earliest (mem_of_chooseDue hd)
      exact ih (h.takeSiteDue (s := { s with freeCount := s.freeCount + 1 })
        (h.frame (w := {}) hs (Within.refl _ _) rfl rfl rfl) due)

theorem setSiteTime (h : BlockClosed P) (tgt : Target) (t : Nat) {s : State} (hs : P s) : P (setSiteTime tgt t s).2 := by
  have clocked (c : Clock) {u : State} (hu : P u) : P { u with clock := c } :=
    h.frame (w := {}) hu (Within.refl _ _) rfl rfl rfl
  unfold Machine.setSiteTime
  split
  · exact hs
  · dsimp only
    exact clocked _ (AirClosed.ite (h.takeDues t _ hs) hs)

theorem siteReset (h : BlockClosed P) (tgt : Target) {s : State} (hs : P s) : P (siteReset tgt s).2 := by
  unfold Machine.siteReset
  split
  · exact hs
  · dsimp only
    exact h.within (foldl_keeps (fun t k ht => h.suspend k .reset t ht) _ _ (h.reset s hs)) (resetRecorder_within _)

theorem judged (h : BlockClosed P) {i : Instr} {s : State} {j : Judged} (hj : judgeRequest i s = some j) (hs : P s) :
    P j.after := by
  cases i with
  | commit tag tgt set => cases hj; exact h.commit tag tgt set hs
  | commence tag tgt =>
    cases hj
    show P (commence tgt s).2
    unfold commence
    split
    · exact hs
    split
    · exact hs
    split
    · exact hs
    · dsimp only
      exact h.startOperating hs
  | siteReset tag tgt => cases hj; exact h.siteReset tgt hs
  | craneRestart tag tgt =>
    cases hj
    show P (craneRestart tgt s).2
    unfold craneRestart
    split
    · exact hs
    · exact h.restart _ hs
  | setSiteTime tag tgt t => cases hj; exact h.setSiteTime tgt t hs
  | haltCrane tag tgt =>
    cases hj
    show P (haltCrane tgt s).2
    unfold haltCrane
    split
    · exact hs
    · exact h.haltState _ hs
  | releaseCrane tag tgt =>
    cases hj
    show P (releaseCrane tgt s).2
    unfold releaseCrane
    split
    · exact hs
    split
    · exact hs
    split
    · exact hs
    split
    · exact hs
    split
    · exact hs
    · dsimp only
      exact h.runState _ hs
  | resumeCrane tag tgt =>
    cases hj
    show P (resumeCrane tgt s).2
    unfold resumeCrane
    split
    · exact hs
    split
    · exact hs
    split
    · exact hs
    split
    · exact hs
    · dsimp only
      exact h.resume _ _ (h.returnSwept _ hs)
  | forceReleaseZone tag tgt =>
    cases hj
    show P (forceReleaseZone tgt s).2
    unfold forceReleaseZone
    split
    · exact hs
    split
    · exact hs
    split
    · exact hs
    split
    · exact hs
    · dsimp only
      exact h.release _ _ hs
  | setZonePermissions tag tgt mode p e =>
    cases hj
    show P (setZonePermissions tgt mode p e s).2
    unfold setZonePermissions
    split
    · exact hs
    split
    · exact hs
    split
    · exact hs
    split
    · split
      · exact hs
      · dsimp only
        exact h.reexamine s (h.within hs (setPerm_within s _ _))
    · dsimp only
      exact h.reexamine s (h.within hs (revertPerm_within _ s))
  | grantAccess tag tgt z u e =>
    cases hj
    show P (grantAccess tgt z u e s).2
    unfold grantAccess
    dsimp only
    split
    · exact hs
    split
    · exact hs
    split
    · exact hs
    split
    · exact hs
    split
    · exact hs
    split
    · dsimp only
      exact h.reexamine s (h.within hs (setGrants_within s _))
    split
    · exact hs
    · dsimp only
      exact h.reexamine s (h.within hs (setGrants_within s _))
  | revokeAccess tag tgt z =>
    cases hj
    show P (revokeAccess tgt z s).2
    unfold revokeAccess
    split
    · split
      · dsimp only
        exact h.reexamine s (h.within hs (setGrants_within s _))
      · exact hs
    · exact hs
  | bookLift tag tgt p =>
    cases hj
    show P (bookLift tgt p s).2
    unfold bookLift
    split
    · exact hs
    split
    · exact hs
    · rename_i id _ _ b hb
      exact h.within (h.book id p b s hs hb) (reportBooking_within id _)
  | cancelBooking tag tgt =>
    cases hj
    show P (cancelBooking tgt s).2
    unfold cancelBooking
    split
    · exact hs
    split
    · exact hs
    · rename_i b hb hterm
      obtain ⟨id, -, hb⟩ := Option.bind_eq_some_iff.1 hb
      obtain rfl := id_of_findBooking hb
      exact h.cancel b s hs hb (by simpa using hterm)
  | retireBooking tag tgt =>
    cases hj
    show P (retireBooking tgt s).2
    unfold retireBooking
    split
    · exact hs
    split
    · rename_i b hb hterm
      obtain ⟨id, -, hb⟩ := Option.bind_eq_some_iff.1 hb
      obtain rfl := id_of_findBooking hb
      exact h.retire b s hs hb hterm
    · exact hs
  | _ => exact h.frame hs (judged_touches hj) rfl rfl rfl

/-- Every step keeps what the blocks keep. -/
theorem stepClosed (h : BlockClosed P) : StepClosed P where
  outer _ _ _ _ _ _ hs := h.frame (w := {}) hs (Within.refl _ _) rfl rfl rfl
  powerOn pending sent free _ _ _ := h.powerOn pending sent free
  pose k f _ hs := h.acceptPose k f hs
  demand k f _ hs := h.acceptDemand k f hs
  rejected k _ hs := h.count k .frameErrors 1 hs
  assembly _ _ hs := h.within hs (setMgmt_within _ _)
  judged _ _ _ hj hs := h.judged hj hs
  answer q tag rs hs := h.within hs (answer_within q tag rs)
  answerRead q tag rs hs := h.within hs (answerRead_within q tag rs)
  unknown _ _ s hs := h.within hs (send_within _ _ s)
  stale k _ hs _ := h.becomeStale k hs
  lost k _ hs _ := h.becomeLost k hs
  silent k s hs _ := h.within hs (becomeSilent_within k s)
  limit z s hs := h.mark z .holdLimit s hs
  blocked k s hs _ := h.vane _ _ hs (blockPreparation_within k s)
  paced t s hs := by
    have timed : Within Touch.transfer s (s.setRecorder { s.recorder with paceTimer := t }) := recorder_within _ _ rfl rfl id
    exact h.within (h.within hs timed) (sendHead_within _)
  transfer t s hs := by
    have timed : Within Touch.transfer s (s.setRecorder { s.recorder with transferTimer := t }) :=
      recorder_within _ _ rfl rfl id
    exact h.within (h.within hs timed) (transferAll_within _)
  override z _ hs := h.expireOverride z hs
  grant g _ hs := h.expireGrant g hs
  opened id b s hs hb logged := by
    obtain rfl := id_of_findBooking hb
    exact h.opened b s hs (List.mem_of_find?_eq_some hb) logged
  closed id b s hs hb := by
    obtain rfl := id_of_findBooking hb
    exact h.closed b s hs hb

end BlockClosed

/-! ### Zone records (R43, R53, R59) -/

/-- A record that stays with the same holder, queue and sweep-pending crane stays sound without its vacate mark, or with the
mark it had while HELD. -/
theorem ZoneRec.Sound.restate {r : ZoneRec} (hr : r.Sound) (st : ZoneState) (v : Bool) (taken : st ≠ .free)
    (same : ({ r with st := st, vacate := v } : ZoneRec).holder = r.holder)
    (mark : v = true → ({ r with st := st, vacate := v } : ZoneRec).heldBy ≠ none) :
    ZoneRec.Sound { r with st := st, vacate := v } := by
  obtain ⟨-, -, distinct, queued, pending⟩ := hr
  refine ⟨fun h => absurd h taken, fun h => ?_, distinct, ?_, ?_⟩
  · cases v with
    | false => rfl
    | true => exact absurd h (mark rfl)
  · rw [same]
    exact queued
  · rw [same]
    exact pending

theorem ZonesSound.sweepZone {s : State} (hs : ZonesSound s) (k : Crane) (z : Zone) : ZonesSound (sweepZone k s z) := by
  obtain ⟨empty, unmarked, distinct, queued, -⟩ := hs z
  unfold Machine.sweepZone
  dsimp only
  split
  · rename_i hst
    obtain ⟨noQueue, noPending⟩ := empty hst
    exact hs.setZone z _ (ZoneRec.sound_of_empty noQueue noPending (unmarked (by unfold ZoneRec.heldBy; rw [hst])))
  · rename_i j kind taken hst
    have holder : (s.zone z).holder = some j := by unfold ZoneRec.holder; rw [hst]
    split
    · rename_i hj
      subst hj
      exact hs.setZone z _ ((hs z).restate _ false nofun holder.symm nofun)
    · rename_i hj
      have pended : ZoneRec.Sound { s.zone z with sweepPending := some k } := by
        refine ⟨fun h => ?_, unmarked, distinct, queued, fun c hc => ?_⟩
        · rw [show (s.zone z).st = _ from hst] at h
          cases h
        · cases hc
          show (s.zone z).holder ≠ some k
          rw [holder]
          exact fun e => hj (Option.some.inj e)
      exact (hs.setZone z _ pended).markVacate z .sweep
  · exact hs

theorem ZonesSound.unpendZone {s : State} (hs : ZonesSound s) (k : Crane) (z : Zone) : ZonesSound (unpendZone k s z) := by
  obtain ⟨empty, unmarked, distinct, queued, -⟩ := hs z
  have unpended : ZoneRec.Sound { s.zone z with sweepPending := none } :=
    ⟨fun h => ⟨(empty h).1, rfl⟩, unmarked, distinct, queued, nofun⟩
  unfold Machine.unpendZone
  split
  · exact (hs.setZone z _ unpended).clearIdleMark z
  · exact hs

theorem ZonesSound.touches {w : Touch} {s t : State} (hs : ZonesSound s) (h : Touches w s t) (hw : w.air = false) :
    ZonesSound t := fun z => by
  rw [zone_congr (h.air hw)]
  exact hs z

theorem zonesSound_airClosed : AirClosed ZonesSound where
  frame hs h hw _ _ := hs.touches h hw
  outcome id f s hs := hs.within (updateBooking_within id _ s)
  arb k a _ hs := hs.setArb k a
  acquire k z h s hs free _ := hs.acquire k z h ((hs z).1 free)
  kind k z h s hs _ _ := hs.setKind z h
  mark z c _ hs := hs.markVacate z c
  refresh c z _ hs := hs.refreshEntry c z
  remove c z _ hs := hs.removeEntry c z
  join c z _ hs hz := hs.joinQueue c z hz
  release z _ hs := hs.release z
  sweep k z _ hs := hs.sweepZone k z
  unpend k z _ hs := hs.unpendZone k z
  unsweep k z taken h v s hs hst _ _ := hs.setZone z _ ((hs z).restate _ v nofun (by simp only [ZoneRec.holder, hst]) nofun)

namespace AirClosed

variable {P : State → Prop}

/-- A property of the Zone Arbiter alone that every way of touching a zone keeps is kept by the blocks. -/
theorem blockClosed (h : AirClosed P) (air : ∀ {w : Touch} {s t : State}, P s → Touches w s t → w.air = false → P t)
    (reset : ∀ s, P s → P (resetBlocks (resetSite s)))
    (powerOn : ∀ pending sent free, P { State.reset with pending := pending, sent := sent, freeCount := free }) :
    BlockClosed P := by
  have update (id : Nat) (f : Booking → Booking) {s : State} (hs : P s) : P (updateBooking id f s) :=
    air hs (updateBooking_within id f s).touches rfl
  have report (id : Nat) {s : State} (hs : P s) : P (reportBooking id s) := h.within hs (reportBooking_within id s)
  exact { h with
    vane := fun s t hs hw => air hs hw.touches rfl
    suspend := fun k why s hs => by
      unfold suspend
      split
      · exact hs
      · exact report _ (h.giveUp k (ite (update _ _ hs) (update _ _ hs)))
    resume := fun k s hs => by
      unfold judgeResume
      split
      · exact hs
      · exact ite (report _ (h.legEntry k (update _ _ hs))) hs
    starts := fun k b s hs _ _ _ => report _ (h.legEntry k (h.judgeLoad _ _ (update _ _ hs)))
    advance := fun k b s hs _ _ _ _ => by
      have gone := h.letGo k (currentLeg (updateBooking b.id (fun b => { b with leg := b.leg + 1 }) s) k)
        (update b.id (fun b => { b with leg := b.leg + 1 }) hs)
      unfold advanceLeg
      dsimp only
      refine h.legEntry k ?_
      split
      · exact gone
      · exact ite gone (h.withdrawReservation k gone)
    finish := fun k b s hs _ _ _ => report _ (h.giveUp k (update _ _ hs))
    cancel := fun b s hs _ _ => report _ (ite (h.giveUp _ (update _ _ hs)) (update _ _ hs))
    opened := fun b s hs _ _ => report _ (update _ _ hs)
    closed := fun b s hs _ => air hs (closeWindow_within b s).touches rfl
    book := fun _ _ _ s hs _ => air hs (setBookings_within s _).touches rfl
    retire := fun _ s hs _ _ => air hs (setBookings_within s _).touches rfl
    reset := reset
    powerOn := powerOn }

end AirClosed

theorem zoneRec_reset_sound : ZoneRec.reset.Sound := ZoneRec.sound_of_empty rfl rfl rfl

theorem zonesSound_blockClosed : BlockClosed ZonesSound :=
  zonesSound_airClosed.blockClosed ZonesSound.touches
    (fun s _ z => by simpa [State.zone, resetBlocks, Air.reset] using zoneRec_reset_sound)
    (fun _ _ _ z => by simpa [State.zone, State.reset, Air.reset] using zoneRec_reset_sound)

/-- Settles O9: every operation of the blocks touches a zone in one of the ways of `AirClosed`, and each of these keeps a zone
record sound. -/
theorem stepKeepsZoneRecordsSound : Obligations.StepKeepsZoneRecordsSound :=
  fun s t hs ht => step_keeps zonesSound_blockClosed.stepClosed s t ht hs

end Sys2Proof.Machine

/-! PROOFS. The Booking Table: a record is found by its id, a crane has one lift in flight, and every operation of the blocks
keeps the table sound (R132, R145). -/

namespace Sys2Proof.Machine

set_option Elab.async false

/-! ### Reading a sound table -/

namespace TableSound

variable {l : List Booking}

theorem eq_of_id (h : TableSound l) {a b : Booking} (ha : a ∈ l) (hb : b ∈ l) (same : a.id = b.id) : a = b := by
  obtain ⟨-, -, apart⟩ := h
  have ids : (l.map (·.id)).Nodup := List.pairwise_map.2 (apart.imp And.left)
  exact List.inj_on_of_nodup_map ids ha hb same

theorem eq_of_flying (h : TableSound l) {a b : Booking} (ha : a ∈ l) (hb : b ∈ l) (crane : a.crane = b.crane)
    (fa : a.flying = true) (fb : b.flying = true) : a = b := by
  obtain ⟨-, -, apart⟩ := h
  by_contra ne
  have : Std.Symm fun x y : Booking => x.id ≠ y.id ∧ ¬(x.crane = y.crane ∧ x.flying = true ∧ y.flying = true) :=
    ⟨fun x y ⟨ids, fly⟩ => ⟨ids.symm, fun ⟨c, fy, fx⟩ => fly ⟨c.symm, fx, fy⟩⟩⟩
  exact (apart.forall ha hb ne).2 ⟨crane, fa, fb⟩

theorem filter (h : TableSound l) (p : Booking → Bool) : TableSound (l.filter p) := by
  obtain ⟨length, sound, apart⟩ := h
  exact ⟨(List.length_filter_le p l).trans length, fun b hb => sound b (List.mem_of_mem_filter hb), apart.filter p⟩

theorem append (h : TableSound l) {b : Booking} (room : l.length < 32) (sound : b.Sound) (fresh : ∀ a ∈ l, a.id ≠ b.id)
    (grounded : b.flying = false) : TableSound (l ++ [b]) := by
  obtain ⟨-, sounds, apart⟩ := h
  refine ⟨by simpa using room, fun a ha => ?_, List.pairwise_append.2 ⟨apart, List.pairwise_singleton _ _, ?_⟩⟩
  · rcases List.mem_append.1 ha with ha | ha
    · exact sounds a ha
    · rw [List.mem_singleton.1 ha]
      exact sound
  · rintro a ha c hc
    rw [List.mem_singleton.1 hc]
    refine ⟨fresh a ha, fun ⟨_, _, fb⟩ => ?_⟩
    rw [grounded] at fb
    cases fb

/-- A change of the record with an id keeps the table sound when it keeps the record sound and makes it fly only where no other
record of its crane flies. -/
theorem update (h : TableSound l) (id : Nat) (f : Booking → Booking) (same : ∀ b, (f b).id = b.id ∧ (f b).crane = b.crane)
    (sound : ∀ b ∈ l, b.id = id → (f b).Sound)
    (flies : ∀ b ∈ l, b.id = id → (f b).flying = true → b.flying = true ∨ ∀ c ∈ l, c.crane = b.crane → c.flying = false) :
    TableSound (l.map fun b => if b.id == id then f b else b) := by
  obtain ⟨length, sounds, apart⟩ := h
  have apartly : ∀ a ∈ l, ∀ b ∈ l, a.id = id → b.id ≠ id → ¬(a.crane = b.crane ∧ a.flying = true ∧ b.flying = true) →
      ¬((f a).crane = b.crane ∧ (f a).flying = true ∧ b.flying = true) := by
    rintro a ha b hb ia ib old ⟨crane, fa, fb⟩
    rw [(same a).2] at crane
    rcases flies a ha ia fa with fa | none
    · exact old ⟨crane, fa, fb⟩
    · rw [none b hb crane.symm] at fb
      cases fb
  refine ⟨by simpa using length, fun c hc => ?_, List.pairwise_map.2 (apart.imp_of_mem fun {a b} ha hb hab => ?_)⟩
  · obtain ⟨b, hb, rfl⟩ := List.mem_map.1 hc
    split
    · exact sound b hb (beq_iff_eq.1 (by assumption))
    · exact sounds b hb
  · obtain ⟨ids, fly⟩ := hab
    by_cases ia : a.id = id <;> by_cases ib : b.id = id
    · exact absurd (ia.trans ib.symm) ids
    · simp only [ia, ib, beq_self_eq_true, if_true, beq_iff_eq, if_false]
      exact ⟨by rw [(same a).1, ia]; exact Ne.symm ib, apartly a ha b hb ia ib fly⟩
    · simp only [ia, ib, beq_self_eq_true, if_true, beq_iff_eq, if_false]
      refine ⟨by rw [(same b).1, ib]; exact ia, fun ⟨crane, fa, fb⟩ => ?_⟩
      exact apartly b hb a ha ib ia (fun ⟨c, x, y⟩ => fly ⟨c.symm, y, x⟩) ⟨crane.symm, fb, fa⟩
    · simp only [ia, ib, beq_iff_eq, if_false]
      exact ⟨ids, fly⟩

end TableSound

theorem flying_iff {b : Booking} : b.flying = true ↔ b.state = .active ∨ b.state = .suspended := by
  simp [Booking.flying]

theorem activeBooking_eq_some {s : State} {k : Crane} {b : Booking} (h : activeBooking s k = some b) :
    b ∈ s.bookings ∧ b.crane = k ∧ b.state = .active := by
  have := List.find?_some h
  simp only [Bool.and_eq_true, beq_iff_eq] at this
  exact ⟨List.mem_of_find?_eq_some h, this⟩

theorem activeBooking_eq_none {s : State} {k : Crane} (h : activeBooking s k = none) {b : Booking} (hb : b ∈ s.bookings)
    (crane : b.crane = k) : b.state ≠ .active := by
  have := List.find?_eq_none.1 h b hb
  simpa [crane] using this

theorem suspendedBooking_eq_some {s : State} {k : Crane} {b : Booking} (h : suspendedBooking s k = some b) :
    b ∈ s.bookings ∧ b.crane = k ∧ b.state = .suspended := by
  have := List.find?_some h
  simp only [Bool.and_eq_true, beq_iff_eq] at this
  exact ⟨List.mem_of_find?_eq_some h, this⟩

theorem openLift_eq_none {s : State} {k : Crane} (h : openLift s k = none) {b : Booking} (hb : b ∈ s.bookings)
    (crane : b.crane = k) : b.flying = false := by
  have := List.find?_eq_none.1 h b hb
  simpa [crane, Booking.flying] using this

theorem mem_of_findBooking {s : State} {id : Nat} {b : Booking} (h : findBooking s id = some b) : b ∈ s.bookings :=
  List.mem_of_find?_eq_some h

/-! ### A lift suspended (R145, R146) -/

/-- What a suspension makes of the record: SUSPENDED, or LAPSED when its OVERTIME flag is set. -/
def suspendedRecord (s : State) (overtime : Bool) (why : SuspendReason) (b : Booking) : Booking :=
  let marked : Booking := { b with reason := some why, suspensions := min 255 (b.suspensions + 1) }
  if overtime then ended s { marked with state := .lapsed } else { marked with state := .suspended }

theorem suspend_of_active {s : State} {k : Crane} {b : Booking} (h : activeBooking s k = some b) (why : SuspendReason) :
    suspend k why s = reportBooking b.id (giveUp k (updateBooking b.id (suspendedRecord s b.overtime why) s)) := by
  unfold suspend suspendedRecord
  rw [h]
  dsimp only
  split <;> rfl

theorem suspend_of_none {s : State} {k : Crane} (h : activeBooking s k = none) (why : SuspendReason) :
    suspend k why s = s := by
  unfold suspend
  rw [h]

/-! ### What the admission tests of BOOK LIFT leave (R133) -/

/-- What an admitted record is: the plan it came from, a fresh id, a table with room. -/
structure Admitted (s : State) (id : Nat) (p : LiftPlan) (b : Booking) : Prop where
  room : s.bookings.length < 32
  fresh : findBooking s id = none
  id_eq : b.id = id
  sound : b.Sound
  grounded : b.state = .opened ∨ b.state = .logged

theorem length_filterMap_of_all {α β : Type} (f : α → Option β) (l : List α) (h : ∀ a ∈ l, (f a).isSome = true) :
    (l.filterMap f).length = l.length := by
  induction l with
  | nil => rfl
  | cons a l ih =>
    obtain ⟨b, hb⟩ := Option.isSome_iff_exists.1 (h a List.mem_cons_self)
    rw [List.filterMap_cons_some hb, List.length_cons, List.length_cons, ih fun x hx => h x (List.mem_cons_of_mem _ hx)]

theorem admitted_of_admission {s : State} {id : Nat} {p : LiftPlan} {b : Booking} (h : admission s id p = .ok b) :
    Admitted s id p b := by
  unfold admission at h
  split at h
  · cases h
  rename_i room
  split at h
  · cases h
  rename_i range
  split at h
  · cases h
  rename_i fresh
  split at h
  · cases h
  split at h
  case h_2 => cases h
  rename_i k _ prof c hprof hchart
  split at h
  · cases h
  split at h
  · cases h
  rename_i window
  split at h
  · cases h
  rename_i route
  dsimp only at h
  split at h
  · cases h
  split at h
  · cases h
  rename_i distinct
  split at h
  · cases h
  rename_i points
  split at h
  · cases h
  cases h
  simp only [Bool.not_eq_true', decide_eq_true_eq, Bool.not_eq_false, not_or, not_lt, routeReadable,
    beq_iff_eq, Bool.not_eq_true, Bool.and_eq_false_iff, List.all_eq_true] at *
  obtain ⟨one, six, entries, zones⟩ := route
  have load : p.load ≤ 20000 := by
    unfold planPoints at points
    dsimp only at points
    split at points
    · cases points
    · rename_i inside
      simp only [Bool.not_eq_true', Bool.not_eq_false, Bool.and_eq_true, decide_eq_true_eq] at inside
      exact inside.2
  have length := (length_filterMap_of_all zoneOf? (planEntries p) zones).trans entries
  refine ⟨not_le.1 room, by simpa using fresh, rfl, ⟨range.1, range.2, window.1, load, ?_, ?_, by simpa using distinct,
    Nat.zero_le _, Nat.zero_le _, fun _ => rfl, fun flying => ?_⟩, ?_⟩
  · rw [length]; exact one
  · rw [length]; exact six
  · rcases flying with flying | done
    · rw [flying_iff] at flying
      dsimp only at flying
      split at flying <;> rcases flying with f | f <;> cases f
    · dsimp only at done
      split at done <;> cases done
  · dsimp only
    split
    · exact .inl rfl
    · exact .inr rfl

/-! ### Every operation keeps the table sound -/

/-- The Booking Table of a state is sound. -/
def TableKept (s : State) : Prop := TableSound s.bookings

namespace TableKept

theorem touches {w : Touch} {s t : State} (hs : TableKept s) (h : Touches w s t) (hw : w.bookings = false) :
    TableKept t := by
  unfold TableKept
  rw [h.bookings hw]
  exact hs

theorem within {w : Touch} {s t : State} (hs : TableKept s) (h : Within w s t) (hw : w.bookings = false := by rfl) :
    TableKept t :=
  hs.touches h.touches hw

theorem of_within {w : Touch} {s t : State} (ht : TableKept t) (h : Within w s t) (hw : w.bookings = false := by rfl) :
    TableKept s := by
  unfold TableKept at ht ⊢
  rw [h.bookings hw] at ht
  exact ht

theorem airClosed : AirClosed TableKept where
  frame hs h _ hw _ := hs.touches h hw
  outcome id f s hs := by
    refine TableSound.update hs id _ (fun _ => ⟨rfl, rfl⟩) (fun b hb _ => ?_) fun _ _ _ flies => .inl flies
    exact hs.2.1 b hb
  arb k a s hs := hs.within (setArb_within s k a)
  acquire k z h s hs _ _ := hs.within (acquire_within k z h s)
  kind k z h s hs _ _ := hs.within (setKind_within z h s)
  mark z c s hs := hs.within (markVacate_within z c s)
  refresh c z s hs := hs.within (refreshEntry_within c z s)
  remove c z s hs := hs.within (removeEntry_within c z s)
  join c z s hs _ := hs.within (joinQueue_within c z s)
  release z s hs := hs.within (release_within z s)
  sweep k z s hs := hs.within (sweepZone_within k s z)
  unpend k z s hs := hs.within (unpendZone_within k s z)
  unsweep k z _ _ _ s hs _ _ _ := hs.within (setZone_within s z _)

/-- One record is changed: it stays sound, and flies only if it flew. -/
theorem update_record {s : State} (hs : TableKept s) {b : Booking} (hb : b ∈ s.bookings) (f : Booking → Booking)
    (same : ∀ c, (f c).id = c.id ∧ (f c).crane = c.crane) (sound : (f b).Sound)
    (flies : (f b).flying = true → b.flying = true ∨ ∀ c ∈ s.bookings, c.crane = b.crane → c.flying = false) :
    TableKept (updateBooking b.id f s) := by
  have only : ∀ c ∈ s.bookings, c.id = b.id → c = b := fun c hc ids => TableSound.eq_of_id hs hc hb ids
  refine TableSound.update hs b.id f same (fun c hc ids => ?_) fun c hc ids => ?_
  · rw [only c hc ids]
    exact sound
  · rw [only c hc ids]
    exact flies

/-- A record of the table, taken apart. -/
theorem record {s : State} (hs : TableKept s) {b : Booking} (hb : b ∈ s.bookings) : b.Sound := hs.2.1 b hb

theorem report {s : State} (hs : TableKept s) (id : Nat) : TableKept (reportBooking id s) :=
  hs.within (reportBooking_within id s)

/-- What a state, a leg and a count must satisfy for a sound record to bear them. -/
theorem restate {b : Booking} (hb : b.Sound) (st : BookingState) (leg n : Nat) (o : Bool) (why : Option SuspendReason)
    (out : LiftOutcome) (hleg : leg ≤ b.route.length) (hn : n ≤ 255) (zero : st = .logged ∨ st = .opened → leg = 0)
    (one : st = .active ∨ st = .suspended ∨ st = .done → 1 ≤ leg) :
    Booking.Sound { b with state := st, leg := leg, suspensions := n, overtime := o, reason := why, outcome := out } := by
  obtain ⟨low, high, window, load, short, long, distinct, -, -, -, -⟩ := hb
  refine ⟨low, high, window, load, short, long, distinct, hleg, hn, zero, fun h => one ?_⟩
  rcases h with h | h
  · exact (flying_iff.1 h).imp_right .inl
  · exact .inr (.inr h)

/-- The leg of a record that flies. -/
theorem leg_of_flying {b : Booking} (hb : b.Sound) (flies : b.flying = true) : 1 ≤ b.leg :=
  hb.2.2.2.2.2.2.2.2.2.2 (.inl flies)

theorem leg_le {b : Booking} (hb : b.Sound) : b.leg ≤ b.route.length := hb.2.2.2.2.2.2.2.1

theorem suspensions_le {b : Booking} (hb : b.Sound) : b.suspensions ≤ 255 := hb.2.2.2.2.2.2.2.2.1

/-- A record leaves the air, or stays on the ground, without a change of its leg. -/
theorem landed {s : State} (hs : TableKept s) {b : Booking} (hb : b ∈ s.bookings) (st : BookingState)
    (f : Booking → Booking) (same : ∀ c, (f c).id = c.id ∧ (f c).crane = c.crane)
    (becomes : ∃ n o why out, n ≤ 255 ∧
      f b = { b with state := st, leg := b.leg, suspensions := n, overtime := o, reason := why, outcome := out })
    (grounded : st = .lapsed ∨ st = .cancelled ∨ st = .done ∧ b.state = .active) : TableKept (updateBooking b.id f s) := by
  obtain ⟨n, o, why, out, hn, becomes⟩ := becomes
  have sound := hs.record hb
  refine hs.update_record hb f same ?_ fun flies => ?_
  · rw [becomes]
    refine restate sound st _ n o why out (leg_le sound) hn ?_ ?_
    · rcases grounded with rfl | rfl | ⟨rfl, -⟩ <;> exact fun h => by rcases h with h | h <;> cases h
    · rcases grounded with rfl | rfl | ⟨rfl, active⟩
      · rintro (h | h | h) <;> cases h
      · rintro (h | h | h) <;> cases h
      · exact fun _ => leg_of_flying sound (flying_iff.2 (.inl active))
  · rw [becomes, flying_iff] at flies
    rcases grounded with rfl | rfl | ⟨rfl, -⟩ <;> rcases flies with h | h <;> cases h

/-- A record that flies goes on flying on a leg of its route. -/
theorem flown {s : State} (hs : TableKept s) {b : Booking} (hb : b ∈ s.bookings) (st : BookingState) (leg : Nat)
    (f : Booking → Booking) (same : ∀ c, (f c).id = c.id ∧ (f c).crane = c.crane)
    (becomes : ∃ n o why out, n ≤ 255 ∧
      f b = { b with state := st, leg := leg, suspensions := n, overtime := o, reason := why, outcome := out })
    (flying : st = .active ∨ st = .suspended) (low : 1 ≤ leg) (high : leg ≤ b.route.length)
    (alone : b.flying = true ∨ ∀ c ∈ s.bookings, c.crane = b.crane → c.flying = false) :
    TableKept (updateBooking b.id f s) := by
  obtain ⟨n, o, why, out, hn, becomes⟩ := becomes
  refine hs.update_record hb f same ?_ fun _ => alone
  rw [becomes]
  refine restate (hs.record hb) st leg n o why out high hn ?_ fun _ => low
  rcases flying with rfl | rfl <;> exact fun h => by rcases h with h | h <;> cases h

theorem suspended {s : State} (hs : TableKept s) {b : Booking} (hb : b ∈ s.bookings) (active : b.state = .active)
    (why : SuspendReason) : TableKept (updateBooking b.id (suspendedRecord s b.overtime why) s) := by
  have flies : b.flying = true := flying_iff.2 (.inl active)
  have sound := hs.record hb
  unfold suspendedRecord
  dsimp only
  split
  · exact hs.landed hb .lapsed _ (fun _ => ⟨rfl, rfl⟩) ⟨_, _, _, _, Nat.min_le_left _ _, rfl⟩ (.inl rfl)
  · exact hs.flown hb .suspended b.leg _ (fun _ => ⟨rfl, rfl⟩) ⟨_, _, _, _, Nat.min_le_left _ _, rfl⟩ (.inr rfl)
      (leg_of_flying sound flies) (leg_le sound) (.inl flies)

theorem suspend {s : State} (hs : TableKept s) (k : Crane) (why : SuspendReason) : TableKept (suspend k why s) := by
  cases h : activeBooking s k with
  | none =>
    rw [suspend_of_none h]
    exact hs
  | some b =>
    obtain ⟨hb, -, active⟩ := activeBooking_eq_some h
    rw [suspend_of_active h]
    exact report (airClosed.giveUp k (hs.suspended hb active why)) b.id

theorem resumed {s : State} (hs : TableKept s) {b : Booking} (hb : b ∈ s.bookings) (suspended : b.state = .suspended) :
    TableKept (updateBooking b.id (fun b => { b with state := .active }) s) := by
  have flies : b.flying = true := flying_iff.2 (.inr suspended)
  have sound := hs.record hb
  exact hs.flown hb .active b.leg _ (fun _ => ⟨rfl, rfl⟩) ⟨_, _, _, _, suspensions_le sound, rfl⟩ (.inl rfl)
    (leg_of_flying sound flies) (leg_le sound) (.inl flies)

theorem resume {s : State} (hs : TableKept s) (k : Crane) : TableKept (judgeResume k s) := by
  unfold Machine.judgeResume
  split
  · exact hs
  rename_i b h
  obtain ⟨hb, -, suspended⟩ := suspendedBooking_eq_some h
  exact AirClosed.ite (report (airClosed.legEntry k (hs.resumed hb suspended)) b.id) hs

theorem openLift_of_begin {k : Crane} {b : Booking} {s : State} (h : beginRefusal k b s = none) :
    openLift s k = none := by
  unfold beginRefusal at h
  split at h
  · cases h
  · simpa using ‹¬(openLift s k).isSome = true›

/-- BEGIN makes the record ACTIVE on leg 1, when no lift of its crane is open. -/
theorem begun {s : State} (hs : TableKept s) {b : Booking} (hb : b ∈ s.bookings) (out : LiftOutcome → LiftOutcome)
    (alone : openLift s b.crane = none) :
    TableKept (updateBooking b.id (fun b => { b with state := .active, leg := 1, outcome := out b.outcome }) s) :=
  hs.flown hb .active 1 _ (fun _ => ⟨rfl, rfl⟩) ⟨_, _, _, _, suspensions_le (hs.record hb), rfl⟩ (.inl rfl) (Nat.le_refl 1)
    (hs.record hb).2.2.2.2.1 (.inr fun _ hc crane => openLift_eq_none alone hc crane)

theorem starts {s : State} (hs : TableKept s) (k : Crane) (b : Booking) (hb : findBooking s b.id = some b)
    (crane : b.crane = k) (begin : beginRefusal k b s = none) : TableKept (beginLift k b s) := by
  subst crane
  exact report (airClosed.legEntry b.crane (airClosed.judgeLoad _ _
    (hs.begun (mem_of_findBooking hb) (fun o => { o with
      beginTime := some s.clock.siteTime, maxLoad := some (((s.pose b.crane).map (·.load)).getD 0), intrusions := some 0,
      chartOverruns := some 0 }) (openLift_of_begin begin)))) b.id

theorem advanced {s : State} (hs : TableKept s) {b : Booking} (hb : b ∈ s.bookings) (active : b.state = .active)
    (more : b.leg < b.route.length) : TableKept (updateBooking b.id (fun b => { b with leg := b.leg + 1 }) s) :=
  hs.flown hb b.state (b.leg + 1) _ (fun _ => ⟨rfl, rfl⟩) ⟨_, _, _, _, suspensions_le (hs.record hb), rfl⟩ (.inl active)
    (Nat.le_add_left 1 _) more (.inl (flying_iff.2 (.inl active)))

theorem advance {s : State} (hs : TableKept s) (k : Crane) {b : Booking} (hb : b ∈ s.bookings) (active : b.state = .active)
    (more : b.leg < b.route.length) : TableKept (advanceLeg k b s) := by
  unfold advanceLeg
  dsimp only
  have gone := airClosed.letGo k (currentLeg (updateBooking b.id (fun b => { b with leg := b.leg + 1 }) s) k)
    (hs.advanced hb active more)
  refine airClosed.legEntry k ?_
  split
  · exact gone
  · exact AirClosed.ite gone (airClosed.withdrawReservation k gone)

theorem finished {s : State} (hs : TableKept s) {b : Booking} (hb : b ∈ s.bookings) (active : b.state = .active) :
    TableKept (updateBooking b.id (fun b => ended s { b with state := .done }) s) :=
  hs.landed hb .done _ (fun _ => ⟨rfl, rfl⟩) ⟨_, _, _, _, suspensions_le (hs.record hb), rfl⟩ (.inr (.inr ⟨rfl, active⟩))

theorem finish {s : State} (hs : TableKept s) (k : Crane) {b : Booking} (hb : b ∈ s.bookings) (active : b.state = .active) :
    TableKept (endLift k b s) :=
  report (airClosed.giveUp k (hs.finished hb active)) b.id

theorem cancelled {s : State} (hs : TableKept s) {b : Booking} (hb : b ∈ s.bookings) :
    TableKept (updateBooking b.id (fun c => if b.state = .active ∨ b.state = .suspended
      then ended s { c with state := .cancelled } else { c with state := .cancelled }) s) := by
  have count := suspensions_le (hs.record hb)
  split
  · exact hs.landed hb .cancelled _ (fun _ => ⟨rfl, rfl⟩) ⟨_, _, _, _, count, rfl⟩ (.inr (.inl rfl))
  · exact hs.landed hb .cancelled _ (fun _ => ⟨rfl, rfl⟩) ⟨_, _, _, _, count, rfl⟩ (.inr (.inl rfl))

theorem cancel {s : State} (hs : TableKept s) {b : Booking} (hb : b ∈ s.bookings) : TableKept (cancelLift b s) :=
  report (AirClosed.ite (airClosed.giveUp b.crane (hs.cancelled hb)) (hs.cancelled hb)) b.id

theorem opened {s : State} (hs : TableKept s) {b : Booking} (hb : b ∈ s.bookings) (logged : b.state = .logged) :
    TableKept (openWindow b.id s) := by
  have sound := hs.record hb
  have ground : b.leg = 0 := sound.2.2.2.2.2.2.2.2.2.1 (.inl logged)
  refine report ?_ b.id
  refine hs.update_record hb _ (fun _ => ⟨rfl, rfl⟩) ?_ fun flies => ?_
  · refine restate sound .opened _ _ _ _ _ (leg_le sound) (suspensions_le sound) (fun _ => ground) ?_
    rintro (h | h | h) <;> cases h
  · rcases flying_iff.1 flies with h | h <;> cases h

theorem closed {s : State} (hs : TableKept s) {b : Booking} (hb : b ∈ s.bookings) : TableKept (closeWindow b s) := by
  have sound := hs.record hb
  have count := suspensions_le sound
  unfold closeWindow
  split
  · refine report ?_ b.id
    exact hs.landed hb .lapsed _ (fun _ => ⟨rfl, rfl⟩) ⟨_, _, _, _, count, rfl⟩ (.inl rfl)
  · refine report ?_ b.id
    exact hs.landed hb .lapsed _ (fun _ => ⟨rfl, rfl⟩) ⟨_, _, _, _, count, rfl⟩ (.inl rfl)
  · rename_i active
    have flies : b.flying = true := flying_iff.2 (.inl active)
    refine AirClosed.ite hs (within ?_ (reportOvertime_within b.id _))
    exact hs.flown hb b.state b.leg _ (fun _ => ⟨rfl, rfl⟩) ⟨_, _, _, _, count, rfl⟩ (.inl active)
      (leg_of_flying sound flies) (leg_le sound) (.inl flies)
  all_goals exact hs

theorem book {s : State} (hs : TableKept s) {id : Nat} {p : LiftPlan} {b : Booking} (h : admission s id p = .ok b) :
    TableKept (s.setBookings (s.bookings ++ [b])) := by
  obtain ⟨room, fresh, rfl, sound, grounded⟩ := admitted_of_admission h
  refine TableSound.append hs room sound (fun a ha => ?_) ?_
  · simpa using List.find?_eq_none.1 fresh a ha
  · rcases grounded with st | st <;> simp [Booking.flying, st]

theorem blockClosed : BlockClosed TableKept :=
  { airClosed with
    vane := fun _ _ hs hw => hs.within hw
    suspend := fun k why _ hs => hs.suspend k why
    resume := fun k _ hs => hs.resume k
    starts := fun k b _ hs hb crane begun => starts hs k b hb crane begun
    advance := fun k _ _ hs hb _ active more => hs.advance k (mem_of_findBooking hb) active more
    finish := fun k _ _ hs hb _ active => finish hs k (mem_of_findBooking hb) active
    cancel := fun _ _ hs hb _ => hs.cancel (mem_of_findBooking hb)
    opened := fun _ _ hs hb logged => hs.opened hb logged
    closed := fun _ _ hs hb => hs.closed (mem_of_findBooking hb)
    book := fun _ _ _ _ hs h => hs.book h
    retire := fun _ _ hs _ _ => TableSound.filter hs _
    reset := fun _ hs => hs
    powerOn := fun _ _ _ => ⟨Nat.zero_le _, fun _ hb => absurd hb List.not_mem_nil, List.Pairwise.nil⟩ }

end TableKept

end Sys2Proof.Machine

/-! PROOFS. A hold of kind BOOKING is on the current leg of its holder's ACTIVE booking (R44): what a release and the other ways
of touching a zone do to that, and how a booking that leaves a leg gives its holds up (R141, R143 to R146). -/

namespace Sys2Proof.Machine

set_option Elab.async false

/-! ### Who holds a zone after a release (R51, R52) -/

theorem placeReservation_st (k : Crane) (y : Zone) (s : State) :
    ((placeReservation k s).zone y).st = (s.zone y).st := by
  unfold placeReservation
  split
  · exact withdrawReservation_st k y s
  · dsimp only
    rw [joinQueue_st, State.setArb_zone]
    split
    · rfl
    · exact withdrawReservation_st k y s

theorem rejudgeEntries_st (c : Crane) (y : Zone) (s : State) : ((rejudgeEntries c s).zone y).st = (s.zone y).st := by
  have waited : ((match (s.arb c).motionWait with
      | none => s
      | some w => refreshEntry c w.zone s).zone y).st = (s.zone y).st := by
    split
    · rfl
    · exact refreshEntry_st _ _ _ _
  unfold rejudgeEntries
  dsimp only
  split
  · exact waited
  · rw [refreshEntry_st]
    exact waited

theorem acquire_st_self (k : Crane) (z : Zone) (h : HoldKind) (s : State) :
    ((acquire k z h s).zone z).st = .held k h s.now := by
  rw [acquire, State.setZone_zone_self]

theorem acquire_st_ne (k : Crane) (z : Zone) (h : HoldKind) (s : State) {y : Zone} (ne : y ≠ z) :
    ((acquire k z h s).zone y).st = (s.zone y).st := by
  rw [acquire, State.setZone_zone_ne _ _ _ _ ne]

theorem setKind_st_ne (z : Zone) (h : HoldKind) (s : State) {y : Zone} (ne : y ≠ z) :
    ((setKind z h s).zone y).st = (s.zone y).st := by
  rw [setKind, State.setZone_zone_ne _ _ _ _ ne]

theorem setKind_st_held {z : Zone} {s : State} {k : Crane} (held : (s.zone z).heldBy = some k) (h : HoldKind) :
    ∃ taken, ((setKind z h s).zone z).st = .held k h taken := by
  obtain ⟨kind, taken, hst⟩ := heldBy_eq_some.1 held
  refine ⟨taken, ?_⟩
  rw [setKind, State.setZone_zone_self, ZoneRec.withKind, hst]

theorem checkVaning_st (k : Crane) (y : Zone) (s : State) : ((checkVaning k s).zone y).st = (s.zone y).st := by
  rw [zone_congr ((checkVaning_within k s).air rfl)]

/-- A granted zone is held by the crane it was granted to, from the present instant, and no other zone changes hands (R52). -/
theorem grant_st (c : Crane) (z y : Zone) (s : State) :
    ((grant c z s).zone y).st = if y = z then .held c (kindFor s c z) s.now else (s.zone y).st := by
  have kind : kindFor (dropEntry c z s) c z = kindFor s c z := by
    unfold kindFor
    rw [AirClosed.currentLeg_congr ((dropEntry_within c z s).bookings rfl)]
  have taken : ((acquire c z (kindFor (dropEntry c z s) c z) (dropEntry c z s)).zone y).st
      = if y = z then .held c (kindFor s c z) s.now else (s.zone y).st := by
    split
    · rename_i hy
      rw [hy, acquire_st_self, kind, (dropEntry_within c z s).now]
    · rename_i hy
      rw [acquire_st_ne _ _ _ _ hy, dropEntry_st]
  unfold grant
  dsimp only
  rw [judgeLimit_st]
  split
  · rw [placeReservation_st, taken]
  · exact taken

/-- The offer of a grant: the zone keeps no holder, or a candidate that may use it holds it; no other zone changes hands. -/
theorem offerGrant_st (z : Zone) (es : List Entry) (s : State) :
    (∀ y, ((offerGrant z es s).zone y).st = (s.zone y).st)
      ∨ ∃ e ∈ es, ∀ y, ((offerGrant z es s).zone y).st
          = if y = z then .held e.crane (kindFor s e.crane z) s.now else (s.zone y).st := by
  induction es generalizing s with
  | nil => exact .inl fun _ => rfl
  | cons e es ih =>
    unfold offerGrant
    split
    · exact .inr ⟨e, List.mem_cons_self, fun y => grant_st e.crane z y s⟩
    · have dropped : Within { air := true } s (offer { kind := .waitDropped, crane := some e.crane, zone := some z }
          (dropEntry e.crane z s)) := (dropEntry_within e.crane z s).then (offer_within _ _).mono
      have kind (c : Crane) : kindFor (offer { kind := .waitDropped, crane := some e.crane, zone := some z }
          (dropEntry e.crane z s)) c z = kindFor s c z := by
        unfold kindFor
        rw [AirClosed.currentLeg_congr (dropped.bookings rfl)]
      have same (y : Zone) : ((offer { kind := .waitDropped, crane := some e.crane, zone := some z }
          (dropEntry e.crane z s)).zone y).st = (s.zone y).st := by
        rw [zone_congr (offer_air _ _), dropEntry_st]
      refine (ih _).imp (fun h y => (h y).trans (same y)) fun ⟨e', he', h⟩ => ⟨e', List.mem_cons_of_mem _ he', fun y => ?_⟩
      rw [h y, kind, same, dropped.now]

/-- After a release the zone is FREE, SWEPT, or held with the kind of R44; no other zone changes hands (R51). -/
theorem release_st (z : Zone) (s : State) :
    (∀ y, y ≠ z → ((release z s).zone y).st = (s.zone y).st)
      ∧ (((release z s).zone z).st = .free ∨ (∃ c, ((release z s).zone z).st = .swept c s.now)
          ∨ ∃ c, ((release z s).zone z).st = .held c (kindFor s c z) s.now) := by
  have freed (y : Zone) : ((s.setZone z { s.zone z with st := .free, vacate := false }).zone y).st
      = if y = z then .free else (s.zone y).st := by
    rw [State.setZone_zone]
    split <;> rfl
  unfold release
  dsimp only
  split
  · rename_i c _
    refine ⟨fun y hy => ?_, .inr (.inl ⟨c, ?_⟩)⟩
    · rw [checkVaning_st, State.setZone_zone_ne _ _ _ _ hy, dropEntry_st, freed, if_neg hy]
    · rw [checkVaning_st, State.setZone_zone_self]
  · rcases offerGrant_st z (grantOrder (s.zone z).queue) (s.setZone z { s.zone z with st := .free, vacate := false })
      with h | ⟨e, -, h⟩
    · exact ⟨fun y hy => by rw [h, freed, if_neg hy], .inl (by rw [h, freed, if_pos rfl])⟩
    · exact ⟨fun y hy => by rw [h, if_neg hy, freed, if_neg hy], .inr (.inr ⟨e.crane, by rw [h, if_pos rfl]; rfl⟩)⟩

theorem release_st_ne (z : Zone) (s : State) {y : Zone} (ne : y ≠ z) : ((release z s).zone y).st = (s.zone y).st :=
  (release_st z s).1 y ne

/-- A released zone that comes to be held with kind BOOKING is on its new holder's current leg. -/
theorem release_onLeg {z : Zone} {s : State} {j : Crane} {taken : Nat}
    (held : ((release z s).zone z).st = .held j .booking taken) : z ∈ currentLeg s j := by
  rcases (release_st z s).2 with h | ⟨c, h⟩ | ⟨c, h⟩
  · rw [h] at held; cases held
  · rw [h] at held; cases held
  · rw [h] at held
    injection held with hc kind _
    exact hc ▸ mem_currentLeg_of_kindFor kind

theorem sweepZone_st_held {k : Crane} {z y : Zone} {s : State} {j : Crane} {h : HoldKind} {taken : Nat}
    (held : ((sweepZone k s z).zone y).st = .held j h taken) : (s.zone y).st = .held j h taken := by
  unfold sweepZone at held
  dsimp only at held
  split at held
  · rw [State.setZone_zone] at held
    split at held
    · cases held
    · exact held
  · split at held
    · rw [State.setZone_zone] at held
      split at held
      · cases held
      · exact held
    · rw [markVacate_st, State.setZone_zone] at held
      split at held
      · rename_i hy
        subst hy
        exact held
      · exact held
  · exact held

theorem unpendZone_st (k : Crane) (z y : Zone) (s : State) : ((unpendZone k s z).zone y).st = (s.zone y).st := by
  unfold unpendZone
  split
  · rw [clearIdleMark_st, State.setZone_zone]
    split
    · rename_i hy
      subst hy
      rfl
    · rfl
  · rfl

end Sys2Proof.Machine

/-! PROOFS. Every step keeps each BOOKING hold on the current leg of its holder's ACTIVE booking (R44). A booking that leaves a leg
or stops being ACTIVE passes through states in which some holds of its crane are on no leg; `OnLegBut` names them. -/

namespace Sys2Proof.Machine

set_option Elab.async false

/-- The current leg, read from a sound table without its order. -/
theorem mem_currentLeg_iff {s : State} (hs : TableKept s) {k : Crane} {z : Zone} :
    z ∈ currentLeg s k ↔ ∃ b ∈ s.bookings, b.crane = k ∧ b.state = .active ∧ z ∈ legZones b := by
  unfold currentLeg
  split
  · rename_i none
    exact ⟨nofun, fun ⟨b, hb, crane, active, _⟩ => absurd active (activeBooking_eq_none none hb crane)⟩
  · rename_i a some
    obtain ⟨ha, craneA, activeA⟩ := activeBooking_eq_some some
    refine ⟨fun h => ⟨a, ha, craneA, activeA, h⟩, fun ⟨b, hb, crane, active, h⟩ => ?_⟩
    rw [TableSound.eq_of_flying hs ha hb (craneA.trans crane.symm) (flying_iff.2 (.inl activeA))
      (flying_iff.2 (.inl active))]
    exact h

/-- Every BOOKING hold is on the current leg of its holder, but for holds of crane k on the zones of `L`. -/
def OnLegBut (k : Crane) (L : List Zone) (s : State) : Prop :=
  ∀ z j taken, (s.zone z).st = .held j .booking taken → z ∈ currentLeg s j ∨ j = k ∧ z ∈ L

namespace OnLegBut

variable {k : Crane} {L : List Zone} {s t : State}

theorem nil_iff : OnLegBut k [] s ↔ BookingHoldsOnLeg s :=
  ⟨fun h z j taken hst => (h z j taken hst).elim id fun ⟨_, hz⟩ => absurd hz List.not_mem_nil,
    fun h z j taken hst => .inl (h z j taken hst)⟩

/-- What is held with kind BOOKING was so held before, or is on the leg of its holder; the legs stay. -/
theorem of_same_legs (hs : OnLegBut k L s) (bookings : t.bookings = s.bookings)
    (holds : ∀ z j taken, (t.zone z).st = .held j .booking taken →
      (∃ taken', (s.zone z).st = .held j .booking taken') ∨ z ∈ currentLeg s j) : OnLegBut k L t := by
  intro z j taken hst
  rw [AirClosed.currentLeg_congr bookings]
  rcases holds z j taken hst with ⟨taken', old⟩ | leg
  · exact hs z j taken' old
  · exact .inl leg

theorem of_same_holders (hs : OnLegBut k L s) {w : Touch} (h : Within w s t) (hw : w.bookings = false)
    (st : ∀ z, (t.zone z).st = (s.zone z).st) : OnLegBut k L t :=
  hs.of_same_legs (h.bookings hw) fun z _ taken hst => .inl ⟨taken, (st z) ▸ hst⟩

theorem release (hs : OnLegBut k L s) (z : Zone) : OnLegBut k L (release z s) := by
  refine hs.of_same_legs ((release_within z s).bookings rfl) fun y j taken hst => ?_
  by_cases hy : y = z
  · subst hy
    exact .inr (release_onLeg hst)
  · rw [release_st_ne z s hy] at hst
    exact .inl ⟨taken, hst⟩

theorem setKind (hs : OnLegBut k L s) {j : Crane} {z : Zone} {h : HoldKind} (held : (s.zone z).heldBy = some j)
    (leg : h = .booking → z ∈ currentLeg s j) : OnLegBut k L (setKind z h s) := by
  refine hs.of_same_legs rfl fun y i taken hst => ?_
  by_cases hy : y = z
  · subst hy
    obtain ⟨taken', new⟩ := setKind_st_held held h
    rw [new] at hst
    injection hst with hj kind _
    exact .inr (hj ▸ leg kind)
  · rw [setKind_st_ne z h s hy] at hst
    exact .inl ⟨taken, hst⟩

end OnLegBut

/-- A sound table, and every BOOKING hold on its leg but for the exceptions of `OnLegBut`. -/
def LegsKept (k : Crane) (L : List Zone) (s : State) : Prop := TableKept s ∧ OnLegBut k L s

namespace LegsKept

variable {k : Crane} {L : List Zone}

theorem touches {w : Touch} {s t : State} (hs : LegsKept k L s) (h : Touches w s t) (bookings : w.bookings = false)
    (air : w.air = false) : LegsKept k L t :=
  ⟨hs.1.touches h bookings, hs.2.of_same_legs (h.bookings bookings) fun z _ taken hst =>
    .inl ⟨taken, zone_congr (h.air air) z ▸ hst⟩⟩

theorem same_holders {w : Touch} {s t : State} (hs : LegsKept k L s) (h : Within w s t)
    (st : ∀ z, (t.zone z).st = (s.zone z).st) (hw : w.bookings = false := by rfl) : LegsKept k L t :=
  ⟨hs.1.within h hw, hs.2.of_same_holders h hw st⟩

/-- A change of a record that leaves the leg of every ACTIVE booking leaves every hold on its leg. -/
theorem update_same_legs {s : State} (hs : LegsKept k L s) (id : Nat) (f : Booking → Booking)
    (table : TableKept (updateBooking id f s))
    (same : ∀ b ∈ s.bookings, b.id = id → b.state = .active →
      (f b).crane = b.crane ∧ (f b).state = .active ∧ legZones (f b) = legZones b) : LegsKept k L (updateBooking id f s) := by
  refine ⟨table, fun z j taken hst => (hs.2 z j taken hst).imp_left fun leg => ?_⟩
  rw [mem_currentLeg_iff table]
  obtain ⟨b, hb, crane, active, zones⟩ := (mem_currentLeg_iff hs.1).1 leg
  refine ⟨if b.id == id then f b else b, List.mem_map.2 ⟨b, hb, rfl⟩, ?_⟩
  split
  · rename_i ids
    obtain ⟨craneF, activeF, zonesF⟩ := same b hb (beq_iff_eq.1 ids) active
    exact ⟨craneF.trans crane, activeF, by rw [zonesF]; exact zones⟩
  · exact ⟨crane, active, zones⟩

/-- A change of a record of crane k leaves every hold of the other cranes on its leg. -/
theorem update_other_legs {s : State} (hs : LegsKept k [] s) {b : Booking} (hb : b ∈ s.bookings) (f : Booking → Booking)
    (table : TableKept (updateBooking b.id f s)) : LegsKept b.crane allZones (updateBooking b.id f s) := by
  refine ⟨table, fun z j taken hst => ?_⟩
  by_cases hj : j = b.crane
  · exact .inr ⟨hj, List.mem_finRange z⟩
  · refine .inl ((mem_currentLeg_iff table).2 ?_)
    obtain ⟨c, hc, crane, active, zones⟩ := (mem_currentLeg_iff hs.1).1 ((OnLegBut.nil_iff.1 hs.2) z j taken hst)
    refine ⟨c, List.mem_map.2 ⟨c, hc, ?_⟩, crane, active, zones⟩
    rw [if_neg]
    rw [beq_iff_eq]
    exact fun ids => hj (crane ▸ congrArg Booking.crane (TableSound.eq_of_id hs.1 hc hb ids))

theorem airClosed : AirClosed (LegsKept k L) where
  frame hs h air bookings _ := hs.touches h bookings air
  outcome id f s hs := hs.update_same_legs id _ (TableKept.airClosed.outcome id f s hs.1) fun _ _ _ active =>
    ⟨rfl, active, rfl⟩
  arb j a s hs := hs.same_holders (setArb_within s j a) fun _ => rfl
  acquire j z h s hs _ leg := by
    refine ⟨hs.1.within (acquire_within j z h s), hs.2.of_same_legs rfl fun y i taken hst => ?_⟩
    by_cases hy : y = z
    · subst hy
      rw [acquire_st_self] at hst
      injection hst with hj kind _
      exact .inr (hj ▸ leg kind)
    · rw [acquire_st_ne _ _ _ _ hy] at hst
      exact .inl ⟨taken, hst⟩
  kind j z h s hs held leg := ⟨hs.1.within (setKind_within z h s), hs.2.setKind held leg⟩
  mark z c s hs := hs.same_holders (markVacate_within z c s) fun y => markVacate_st z y c s
  refresh c z s hs := hs.same_holders (refreshEntry_within c z s) fun y => refreshEntry_st c z y s
  remove c z s hs := hs.same_holders (removeEntry_within c z s) fun y => removeEntry_st c z y s
  join c z s hs _ := hs.same_holders (joinQueue_within c z s) fun y => joinQueue_st c z y s
  release z s hs := ⟨hs.1.within (release_within z s), hs.2.release z⟩
  sweep j z s hs := ⟨hs.1.within (sweepZone_within j s z), hs.2.of_same_legs ((sweepZone_within j s z).bookings rfl)
    fun _ _ taken hst => .inl ⟨taken, sweepZone_st_held hst⟩⟩
  unpend j z s hs := hs.same_holders (unpendZone_within j s z) fun y => unpendZone_st j z y s
  unsweep j z _ h v s hs _ leg _ := by
    refine ⟨hs.1.within (setZone_within s z _), hs.2.of_same_legs rfl fun y i taken hst => ?_⟩
    rw [State.setZone_zone] at hst
    split at hst
    · rename_i hy
      injection hst with hj kind _
      exact .inr (by rw [hy, ← hj]; exact leg kind)
    · exact .inl ⟨taken, hst⟩

/-! ### Letting go (R141, R143 to R146) -/

/-- One zone let go is no exception any more. -/
theorem letGoZone {s : State} {z : Zone} {f : List Occ} {keep : List Zone} (hs : LegsKept k (z :: L) s)
    (kept : ∀ y ∈ keep, y ∈ currentLeg s k) : LegsKept k L (letGoZone k f keep s z) := by
  have table : TableKept (Machine.letGoZone k f keep s z) := TableKept.airClosed.letGoZone k f keep z hs.1
  refine ⟨table, fun y j taken hst => ?_⟩
  rcases (airClosed.letGoZone k f keep z hs).2 y j taken hst with leg | ⟨rfl, hy⟩
  · exact .inl leg
  rcases List.mem_cons.1 hy with rfl | hy
  case inr => exact .inr ⟨rfl, hy⟩
  left
  unfold Machine.letGoZone at hst ⊢
  split at hst
  · rename_i held
    rw [if_pos held]
    split at hst
    · rw [judgeLimit_st] at hst
      obtain ⟨kind, old, holder⟩ := isHeldBy_iff.1 held.1
      obtain ⟨_, new⟩ := setKind_st_held (heldBy_eq_some.2 ⟨kind, old, holder⟩) .motion
      rw [new] at hst
      cases hst
    · rename_i outside
      rw [if_neg outside, AirClosed.currentLeg_congr ((release_within y s).bookings rfl)]
      exact release_onLeg hst
  · rename_i unheld
    rw [if_neg unheld]
    refine kept y ?_
    by_contra gone
    refine unheld ⟨isHeldBy_iff.2 ⟨_, _, hst⟩, ?_, gone⟩
    unfold ZoneRec.kind
    rw [hst]

/-- Once all zones are let go but those of the current leg, there is no exception left. -/
theorem letGo {s : State} {keep : List Zone} (hs : LegsKept k allZones s) (kept : ∀ y ∈ keep, y ∈ currentLeg s k) :
    LegsKept k [] (letGo k keep s) := by
  unfold Machine.letGo
  generalize footprint s k = f
  generalize allZones = zs at hs ⊢
  induction zs generalizing s with
  | nil => exact hs
  | cons z zs ih =>
    have same : (Machine.letGoZone k f keep s z).bookings = s.bookings := by
      unfold Machine.letGoZone
      split
      · split
        · rw [(judgeLimit_within z _).bookings rfl]
          rfl
        · exact (release_within z s).bookings rfl
      · rfl
    refine ih (fun y hy => ?_) (hs.letGoZone kept)
    rw [AirClosed.currentLeg_congr same]
    exact kept y hy

/-- What is given up leaves no exception. -/
theorem giveUp {s : State} (hs : LegsKept k allZones s) : LegsKept k [] (giveUp k s) :=
  airClosed.rejudgeEntries k (airClosed.withdrawReservation k (hs.letGo (keep := []) nofun))

theorem report {s : State} (hs : LegsKept k L s) (id : Nat) : LegsKept k L (reportBooking id s) :=
  airClosed.within hs (reportBooking_within id s)

/-- The crane named is of no account when there is no exception. -/
theorem any_crane {s : State} (hs : LegsKept k [] s) (j : Crane) : LegsKept j [] s :=
  ⟨hs.1, OnLegBut.nil_iff.2 (OnLegBut.nil_iff.1 hs.2)⟩

/-- A crane without an ACTIVE booking has no BOOKING hold, so its record may become ACTIVE. -/
theorem update_grounded {s : State} (hs : LegsKept k [] s) {b : Booking} (hb : b ∈ s.bookings) (f : Booking → Booking)
    (table : TableKept (updateBooking b.id f s)) (grounded : b.state ≠ .active) : LegsKept k [] (updateBooking b.id f s) :=
  hs.update_same_legs b.id f table fun _ hc ids active =>
    absurd active (TableSound.eq_of_id hs.1 hc hb ids ▸ grounded)

theorem landed {s : State} (hs : LegsKept k [] s) {b : Booking} (hb : b ∈ s.bookings) {f : Booking → Booking}
    (table : TableKept (updateBooking b.id f s)) : LegsKept k [] (Machine.giveUp b.crane (updateBooking b.id f s)) :=
  any_crane (giveUp (hs.update_other_legs hb f table)) k

/-! ### The Booking Table (R137 to R147) -/

theorem suspend {s : State} (hs : LegsKept k [] s) (j : Crane) (why : SuspendReason) :
    LegsKept k [] (suspend j why s) := by
  cases h : activeBooking s j with
  | none =>
    rw [suspend_of_none h]
    exact hs
  | some b =>
    obtain ⟨hb, rfl, active⟩ := activeBooking_eq_some h
    rw [suspend_of_active h]
    exact report (hs.landed hb (hs.1.suspended hb active why)) b.id

theorem resume {s : State} (hs : LegsKept k [] s) (j : Crane) : LegsKept k [] (judgeResume j s) := by
  unfold Machine.judgeResume
  split
  · exact hs
  rename_i b h
  obtain ⟨hb, -, suspended⟩ := suspendedBooking_eq_some h
  refine AirClosed.ite (report (airClosed.legEntry j ?_) b.id) hs
  exact hs.update_grounded hb _ (hs.1.resumed hb suspended) (by simp [suspended])

theorem starts {s : State} (hs : LegsKept k [] s) {b : Booking} (hb : b ∈ s.bookings) (begin : beginRefusal b.crane b s = none) :
    LegsKept k [] (beginLift b.crane b s) := by
  have alone := TableKept.openLift_of_begin begin
  have grounded : b.state ≠ .active := fun active => by
    have := openLift_eq_none alone hb rfl
    rw [flying_iff.2 (.inl active)] at this
    cases this
  refine report (airClosed.legEntry b.crane (airClosed.judgeLoad _ _ ?_)) b.id
  exact hs.update_grounded hb _ (hs.1.begun hb (fun o => { o with
    beginTime := some s.clock.siteTime, maxLoad := some (((s.pose b.crane).map (·.load)).getD 0), intrusions := some 0,
    chartOverruns := some 0 }) alone) grounded

theorem advance {s : State} (hs : LegsKept k [] s) {b : Booking} (hb : b ∈ s.bookings) (active : b.state = .active)
    (more : b.leg < b.route.length) : LegsKept k [] (advanceLeg b.crane b s) := by
  unfold advanceLeg
  dsimp only
  have gone := any_crane (letGo (hs.update_other_legs hb _ (hs.1.advanced hb active more)) fun _ hy => hy) k
  refine airClosed.legEntry b.crane ?_
  split
  · exact gone
  · exact AirClosed.ite gone (airClosed.withdrawReservation b.crane gone)

theorem finish {s : State} (hs : LegsKept k [] s) {b : Booking} (hb : b ∈ s.bookings) (active : b.state = .active) :
    LegsKept k [] (endLift b.crane b s) :=
  report (hs.landed hb (hs.1.finished hb active)) b.id

theorem cancel {s : State} (hs : LegsKept k [] s) {b : Booking} (hb : b ∈ s.bookings) : LegsKept k [] (cancelLift b s) := by
  unfold cancelLift
  dsimp only
  split
  · exact report (hs.landed hb (hs.1.cancelled hb)) b.id
  · rename_i grounded
    exact report (hs.update_grounded hb _ (hs.1.cancelled hb) grounded) b.id

theorem opened {s : State} (hs : LegsKept k [] s) {b : Booking} (hb : b ∈ s.bookings) (logged : b.state = .logged) :
    LegsKept k [] (openWindow b.id s) := by
  refine report ?_ b.id
  have table : TableKept (openWindow b.id s) := hs.1.opened hb logged
  exact hs.update_grounded hb _ (table.of_within (reportBooking_within b.id _)) (by simp [logged])

theorem closed {s : State} (hs : LegsKept k [] s) {b : Booking} (hb : b ∈ s.bookings) : LegsKept k [] (closeWindow b s) := by
  have table := hs.1.closed hb
  unfold closeWindow at table ⊢
  split at table
  · rename_i st
    exact report (hs.update_grounded hb _ (table.of_within (reportBooking_within b.id _)) (by simp [st])) b.id
  · rename_i st
    exact report (hs.update_grounded hb _ (table.of_within (reportBooking_within b.id _)) (by simp [st])) b.id
  · split at table
    · rename_i marked
      rw [if_pos marked]
      exact hs
    · rename_i unmarked
      rw [if_neg unmarked]
      exact airClosed.within (hs.update_same_legs b.id _ (table.of_within (reportOvertime_within b.id _))
        fun _ _ _ active => ⟨rfl, active, rfl⟩) (reportOvertime_within b.id _)
  all_goals exact hs

/-- New records, or the loss of old ones that are not ACTIVE, leave every hold on its leg. -/
theorem set_bookings {s : State} (hs : LegsKept k L s) {l : List Booking} (table : TableKept (s.setBookings l))
    (keeps : ∀ b ∈ s.bookings, b.state = .active → b ∈ l) : LegsKept k L (s.setBookings l) := by
  refine ⟨table, fun z j taken hst => (hs.2 z j taken hst).imp_left fun leg => ?_⟩
  rw [mem_currentLeg_iff table]
  obtain ⟨b, hb, crane, active, zones⟩ := (mem_currentLeg_iff hs.1).1 leg
  exact ⟨b, keeps b hb active, crane, active, zones⟩

theorem of_free {s : State} (table : TableKept s) (free : ∀ z, (s.zone z).st = .free) : LegsKept k L s :=
  ⟨table, fun z j taken hst => by rw [free z] at hst; cases hst⟩

theorem blockClosed : BlockClosed (LegsKept k []) :=
  { airClosed with
    vane := fun _ _ hs hw => hs.touches hw.touches rfl rfl
    suspend := fun j why _ hs => hs.suspend j why
    resume := fun j _ hs => hs.resume j
    starts := fun _ _ _ hs hb crane begin => by subst crane; exact hs.starts (mem_of_findBooking hb) begin
    advance := fun _ _ _ hs hb crane active more => by subst crane; exact hs.advance (mem_of_findBooking hb) active more
    finish := fun _ _ _ hs hb crane active => by subst crane; exact hs.finish (mem_of_findBooking hb) active
    cancel := fun _ _ hs hb _ => hs.cancel (mem_of_findBooking hb)
    opened := fun _ _ hs hb logged => hs.opened hb logged
    closed := fun _ _ hs hb => hs.closed (mem_of_findBooking hb)
    book := fun _ _ _ _ hs h => hs.set_bookings (hs.1.book h) fun _ hb _ => List.mem_append_left _ hb
    retire := fun b s hs hb terminal => hs.set_bookings (TableSound.filter hs.1 _) fun c hc active => by
      refine List.mem_filter.2 ⟨hc, ?_⟩
      by_contra same
      rw [TableSound.eq_of_id hs.1 hc (mem_of_findBooking hb) (by simpa using same)] at active
      rw [active] at terminal
      cases terminal
    reset := fun s hs => of_free hs.1 fun z => by simp [State.zone, resetBlocks, Air.reset, ZoneRec.reset]
    powerOn := fun pending sent free => of_free (TableKept.blockClosed.powerOn pending sent free) fun z => by
      simp [State.zone, State.reset, Air.reset, ZoneRec.reset] }

end LegsKept

/-- Settles O11: with the table sound, every operation of the blocks keeps each BOOKING hold on its holder's current leg; the
holds of a crane whose booking leaves a leg are let go before the operation ends. -/
theorem stepKeepsBookingHoldsOnLeg : Obligations.StepKeepsBookingHoldsOnLeg := by
  intro s t table holds ht
  have start : LegsKept 0 [] s := ⟨table, OnLegBut.nil_iff.2 holds⟩
  exact OnLegBut.nil_iff.1 (step_keeps LegsKept.blockClosed.stepClosed s t ht start).2

end Sys2Proof.Machine

/-! PROOFS. What holds in CONFIG (R21, R35, R43, R103, R131, R138): with every zone FREE, every crane HALTED, every monitor IDLE
and no lift ACTIVE, most of what an event does in OPERATING does nothing. -/

namespace Sys2Proof.Machine

set_option Elab.async false

/-! ### Zone records at their reset value -/

/-- Every zone record is FREE, without queue, mark or sweep-pending crane. -/
def ZonesReset (s : State) : Prop := ∀ z, s.zone z = .reset

namespace ZonesReset

variable {s t : State}

theorem within {w : Touch} (hs : ZonesReset s) (h : Within w s t) (hw : w.air = false := by rfl) : ZonesReset t :=
  fun z => by rw [zone_congr (h.air hw)]; exact hs z

theorem st (hs : ZonesReset s) (z : Zone) : (s.zone z).st = .free := by rw [hs z]; rfl

theorem heldBy (hs : ZonesReset s) (z : Zone) : (s.zone z).heldBy = none := by rw [hs z]; rfl

theorem setZone (hs : ZonesReset s) {z : Zone} {r : ZoneRec} (hr : r = .reset) : ZonesReset (s.setZone z r) := fun y => by
  rw [State.setZone_zone]
  split
  · exact hr
  · exact hs y

theorem setArb (hs : ZonesReset s) (k : Crane) (a : ArbRec) : ZonesReset (s.setArb k a) := hs

theorem refreshEntry (hs : ZonesReset s) (c : Crane) (z : Zone) : ZonesReset (refreshEntry c z s) :=
  hs.setZone (by rw [hs z]; rfl)

theorem removeEntry (hs : ZonesReset s) (c : Crane) (z : Zone) : ZonesReset (removeEntry c z s) := by
  have gone : ZonesReset (s.setZone z { s.zone z with queue := (s.zone z).queue.filter fun e => !(e.crane == c) }) :=
    hs.setZone (by rw [hs z]; rfl)
  unfold Machine.removeEntry clearIdleMark
  dsimp only
  split
  · exact gone.setZone (by rw [gone z]; rfl)
  · exact gone

theorem settleEntry (hs : ZonesReset s) (c : Crane) (z : Zone) : ZonesReset (settleEntry c z s) :=
  AirClosed.ite (hs.refreshEntry c z) (hs.removeEntry c z)

theorem withdrawWait (hs : ZonesReset s) (c : Crane) : ZonesReset (withdrawWait c s) := by
  unfold Machine.withdrawWait
  split
  · exact hs
  · exact (hs.setArb c _).settleEntry c _

theorem withdrawReservation (hs : ZonesReset s) (c : Crane) : ZonesReset (withdrawReservation c s) := by
  unfold Machine.withdrawReservation
  split
  · exact hs
  · exact (hs.setArb c _).settleEntry c _

theorem rejudgeEntries (hs : ZonesReset s) (c : Crane) : ZonesReset (rejudgeEntries c s) := by
  have waited : ZonesReset (match (s.arb c).motionWait with
      | none => s
      | some w => Machine.refreshEntry c w.zone s) := by
    split
    · exact hs
    · exact hs.refreshEntry c _
  unfold Machine.rejudgeEntries
  dsimp only
  split
  · exact waited
  · exact waited.refreshEntry c _

/-- Without holds nothing is let go. -/
theorem letGo (hs : ZonesReset s) (k : Crane) (keep : List Zone) : letGo k keep s = s :=
  foldl_keeps (P := fun t => t = s) (fun t z ht => by
    subst ht
    unfold letGoZone isHeldBy
    rw [hs.heldBy z]
    simp) _ _ rfl

theorem giveUp (hs : ZonesReset s) (k : Crane) : ZonesReset (giveUp k s) := by
  unfold Machine.giveUp
  rw [hs.letGo]
  exact (hs.withdrawReservation k).rejudgeEntries k

theorem suspend (hs : ZonesReset s) (k : Crane) (why : SuspendReason) : ZonesReset (suspend k why s) := by
  cases h : activeBooking s k with
  | none => rw [suspend_of_none h]; exact hs
  | some b =>
    rw [suspend_of_active h]
    exact (giveUp (hs.within (updateBooking_within b.id _ s)) k).within (reportBooking_within b.id _)

/-- Without holds a change of permissions meets none. -/
theorem reexamine (hs : ZonesReset s) (before : State) : reexamine before s = s := by
  have examined : allZones.foldl (reexamineZone before) s = s :=
    foldl_keeps (P := fun t => t = s) (fun t z ht => by
      subst ht
      unfold reexamineZone
      rw [hs.st z]) _ _ rfl
  unfold Machine.reexamine
  rw [examined]
  exact foldl_keeps (P := fun t => t = s) (fun t z ht => by
    subst ht
    unfold restoreZone
    rw [hs.st z]) _ _ rfl

theorem judgeLimit (hs : ZonesReset s) (z : Zone) : judgeLimit z s = s := by
  have unlimited : limitInstant s z = none := by
    unfold limitInstant
    dsimp only
    rw [hs.st z]
  unfold Machine.judgeLimit limitReached
  rw [unlimited]
  exact if_neg nofun

theorem markVacate (hs : ZonesReset s) (z : Zone) (cause : VacateCause) : markVacate z cause s = s := by
  unfold Machine.markVacate
  rw [hs.heldBy z]

end ZonesReset

/-! ### What is left of a lift that is suspended (R145, R146) -/

theorem suspend_bookings_of_active {s : State} {k : Crane} {b : Booking} (h : activeBooking s k = some b)
    (why : SuspendReason) : (suspend k why s).bookings
      = s.bookings.map fun c => if c.id == b.id then suspendedRecord s b.overtime why c else c := by
  rw [suspend_of_active h, (reportBooking_within _ _).bookings rfl, (giveUp_within _ _).bookings rfl]
  rfl

theorem suspendedRecord_not_active (s : State) (overtime : Bool) (why : SuspendReason) (b : Booking) :
    (suspendedRecord s overtime why b).state ≠ .active := by
  unfold suspendedRecord
  dsimp only
  split <;> exact nofun

/-- An ACTIVE booking after a suspension of crane k is another crane's, and was ACTIVE before. -/
theorem active_of_suspend {s : State} (hs : TableKept s) {k : Crane} {why : SuspendReason} {b : Booking}
    (hb : b ∈ (suspend k why s).bookings) (active : b.state = .active) : b ∈ s.bookings ∧ b.crane ≠ k := by
  cases h : activeBooking s k with
  | none =>
    rw [suspend_of_none h] at hb
    exact ⟨hb, fun crane => activeBooking_eq_none h hb crane active⟩
  | some a =>
    rw [suspend_bookings_of_active h] at hb
    obtain ⟨c, hc, rfl⟩ := List.mem_map.1 hb
    split at active
    · exact absurd active (suspendedRecord_not_active _ _ _ _)
    · rename_i other
      rw [if_neg other]
      refine ⟨hc, fun crane => other ?_⟩
      obtain ⟨ha, craneA, activeA⟩ := activeBooking_eq_some h
      rw [TableSound.eq_of_flying hs hc ha (crane.trans craneA.symm) (flying_iff.2 (.inl active))
        (flying_iff.2 (.inl activeA))]
      exact beq_self_eq_true _

/-- Once every crane's lift is suspended, none is ACTIVE. -/
theorem grounded_of_suspends {s : State} (hs : TableKept s) (why : SuspendReason) :
    ∀ b ∈ (allCranes.foldl (fun t k => suspend k why t) s).bookings, b.state ≠ .active := by
  suffices ∀ (l : List Crane) (t : State), TableKept t → ∀ b ∈ (l.foldl (fun t k => suspend k why t) t).bookings,
      b.state = .active → b.crane ∉ l ∧ b ∈ t.bookings from
    fun b hb active => (this allCranes s hs b hb active).1 (List.mem_finRange _)
  intro l
  induction l with
  | nil => exact fun _ _ b hb _ => ⟨List.not_mem_nil, hb⟩
  | cons k l ih =>
    intro t ht b hb active
    obtain ⟨rest, hb⟩ := ih _ (ht.suspend k why) b hb active
    obtain ⟨hb, crane⟩ := active_of_suspend ht hb active
    exact ⟨fun mem => (List.mem_cons.1 mem).elim crane rest, hb⟩

/-! ### What a pose leaves of zones and control states -/

theorem advanceLane_zone (k : Crane) (last : Option Nat) (seq : Nat) (s : State) (z : Zone) :
    (advanceLane k last seq s).2.zone z = s.zone z := by
  have live (t : State) : (becomeLive k t).zone z = t.zone z := by
    unfold becomeLive restartTimer startTstale
    rw [State.setArb_zone, State.setLane_zone, zone_congr ((setLaneState_within k .live t).air rfl)]
  unfold advanceLane
  dsimp only
  split
  · split
    · rfl
    · dsimp only
      split
      · unfold markSettling
        rw [State.setArb_zone, live]
        rfl
      · rw [live]
        rfl
  · rfl
  · dsimp only
    rw [live]
    rfl
  · dsimp only
    rw [zone_congr ((setLaneState_within k _ _).air rfl)]
    rfl

theorem Lane.advance_control (l : Lane) (last : Option Nat) (seq : Nat) (fresh : Option Nat) :
    (l.advance last seq fresh).control = l.control := by
  unfold Lane.advance
  split
  · split <;> rfl
  all_goals rfl

theorem reloadTimer_zone (k : Crane) (v : PerAxis Int) (s : State) (z : Zone) : (reloadTimer k v s).zone z = s.zone z := by
  unfold reloadTimer
  split
  · rfl
  · split <;> rfl

/-! ### What holds in CONFIG -/

/-- What the invariant of CONFIG says of the blocks. -/
structure ConfigHolds (s : State) : Prop where
  zones : ZonesReset s
  halted : ∀ k, (s.lane k).control = .halted
  idle : ∀ k, (s.wind k).running = false
  vanes : ∀ k, s.vane k = .reset
  grounded : ∀ b ∈ s.bookings, b.state ≠ .active
  structural : ∀ k : Crane, s.site.structural[k] = none
  policyCommit : ∀ k : Crane, s.site.policyCommit[k] = none

theorem configSound_iff {s : State} : ConfigSound s ↔ (s.mode = .config → ConfigHolds s) :=
  ⟨fun h hm => have ⟨zones, halted, idle, vanes, grounded, commits⟩ := h hm
    ⟨zones, halted, idle, vanes, grounded, fun k => (commits k).1, fun k => (commits k).2⟩,
  fun h hm => have ⟨zones, halted, idle, vanes, grounded, structural, policyCommit⟩ := h hm
    ⟨zones, halted, idle, vanes, grounded, fun k => ⟨structural k, policyCommit k⟩⟩⟩

namespace ConfigHolds

variable {s t : State}

theorem touches {w : Touch} (hs : ConfigHolds s) (h : Touches w s t) (air : w.air = false := by rfl)
    (lanes : w.lanes = false := by rfl) (winds : w.winds = false := by rfl) (vanes : w.vanes = false := by rfl)
    (bookings : w.bookings = false := by rfl) (site : w.site = false := by rfl) : ConfigHolds t where
  zones z := by rw [zone_congr (h.air air)]; exact hs.zones z
  halted k := by rw [lane_congr (h.lanes lanes)]; exact hs.halted k
  idle k := by rw [wind_congr (h.winds winds)]; exact hs.idle k
  vanes k := by rw [vane_congr (h.vanes vanes)]; exact hs.vanes k
  grounded := by rw [h.bookings bookings]; exact hs.grounded
  structural := by rw [h.site site]; exact hs.structural
  policyCommit := by rw [h.site site]; exact hs.policyCommit

theorem within {w : Touch} (hs : ConfigHolds s) (h : Within w s t) (air : w.air = false := by rfl)
    (lanes : w.lanes = false := by rfl) (winds : w.winds = false := by rfl) (vanes : w.vanes = false := by rfl)
    (bookings : w.bookings = false := by rfl) (site : w.site = false := by rfl) : ConfigHolds t :=
  hs.touches h.touches air lanes winds vanes bookings site

/-- Lanes and arbiter records may change, as long as the cranes stay HALTED and the zone records as they are. -/
theorem relaned {w : Touch} {k : Crane} {l : Lane} (hs : ConfigHolds s) (h : Within w s t) (zones : ZonesReset t)
    (lanes : t.lanes = (s.setLane k l).lanes) (halted : l.control = .halted) (winds : w.winds = false := by rfl)
    (vanes : w.vanes = false := by rfl) (bookings : w.bookings = false := by rfl) (site : w.site = false := by rfl) :
    ConfigHolds t where
  zones := zones
  halted j := by
    by_cases hj : j = k
    · rw [hj, lane_of_lanes lanes, halted]
    · rw [lane_of_lanes_ne lanes hj, hs.halted]
  idle k := by rw [wind_congr (h.winds winds)]; exact hs.idle k
  vanes k := by rw [vane_congr (h.vanes vanes)]; exact hs.vanes k
  grounded := by rw [h.bookings bookings]; exact hs.grounded
  structural := by rw [h.site site]; exact hs.structural
  policyCommit := by rw [h.site site]; exact hs.policyCommit

theorem rezoned {w : Touch} (hs : ConfigHolds s) (h : Within w s t) (zones : ZonesReset t) (lanes : w.lanes = false := by rfl)
    (winds : w.winds = false := by rfl) (vanes : w.vanes = false := by rfl) (bookings : w.bookings = false := by rfl)
    (site : w.site = false := by rfl) : ConfigHolds t :=
  hs.relaned h zones ((h.lanes lanes).trans (setLane_lanes_self 0 s)) (hs.halted 0) winds vanes bookings site

theorem setLane (hs : ConfigHolds s) (k : Crane) {l : Lane} (halted : l.control = .halted) : ConfigHolds (s.setLane k l) :=
  hs.relaned (setLane_within s k l) (hs.zones.within (setLane_within s k l)) rfl halted

theorem setLaneState (hs : ConfigHolds s) (k : Crane) (new : LaneState) : ConfigHolds (setLaneState k new s) :=
  hs.relaned (setLaneState_within k new s) (hs.zones.within (setLaneState_within k new s)) (setLaneState_lanes k new s)
    (hs.halted k)

/-- The Booking Table may change, as long as no lift becomes ACTIVE. -/
theorem rebooked (hs : ConfigHolds s) {l : List Booking} (grounded : ∀ b ∈ l, b.state ≠ .active) :
    ConfigHolds (s.setBookings l) :=
  { hs with grounded := grounded }

theorem updated (hs : ConfigHolds s) (id : Nat) (f : Booking → Booking)
    (grounded : ∀ b, (f b).state ≠ .active) : ConfigHolds (updateBooking id f s) := by
  refine hs.rebooked fun b hb => ?_
  obtain ⟨c, hc, rfl⟩ := List.mem_map.1 hb
  split
  · exact grounded c
  · exact hs.grounded c hc

theorem report (hs : ConfigHolds s) (id : Nat) : ConfigHolds (reportBooking id s) := hs.within (reportBooking_within id s)

theorem activeBooking (hs : ConfigHolds s) (k : Crane) : activeBooking s k = none := by
  cases h : Machine.activeBooking s k with
  | none => rfl
  | some b =>
    obtain ⟨hb, -, active⟩ := activeBooking_eq_some h
    exact absurd active (hs.grounded b hb)

/-! ### What does nothing in CONFIG -/

theorem suspend (hs : ConfigHolds s) (k : Crane) (why : SuspendReason) : suspend k why s = s :=
  suspend_of_none (hs.activeBooking k) why

theorem haltState (hs : ConfigHolds s) (k : Crane) : haltState k s = s := by
  unfold Machine.haltState
  rw [if_pos (hs.halted k)]

theorem judgeResume (hs : ConfigHolds s) (k : Crane) : judgeResume k s = s := by
  unfold Machine.judgeResume mayResume
  rw [hs.halted k]
  split
  · rfl
  · simp

theorem poseBlocks (hs : ConfigHolds s) (hm : s.mode = .config) (k : Crane) (live : Bool) : poseBlocks k live s = s := by
  have wind : windOnPose k s = ([], s) := by
    unfold windOnPose
    rw [hs.idle k]
    split <;> simp
  have vane : vaneOnPose k [] false s = ([], s) := by
    unfold vaneOnPose judgeEntry
    simp only [List.foldl_nil, hm, reduceCtorEq, false_and, if_false]
    split
    · rfl
    · split <;> rfl
  have load : noteLoad k s = s := by
    unfold noteLoad
    rw [hs.activeBooking k]
  have pending : pendingCommitStep k s = s := by
    unfold pendingCommitStep
    rw [hs.structural k]
  have booking (judge : Bool) : bookingOnPose k [] judge s = s := by
    unfold bookingOnPose
    dsimp only
    rw [List.foldl_nil, hs.judgeResume, ite_self, load]
  unfold Machine.poseBlocks
  simp only [hm, show (Mode.config == Mode.operating) = false from rfl, Bool.false_and, Bool.and_false, if_false,
    Bool.false_eq_true, wind, vane, List.append_nil, booking, pending]



/-! ### Poses and demands in CONFIG -/

theorem advancedPose (hs : ConfigHolds s) (k : Crane) (f : List Byte) : ConfigHolds (advancedPose k f s).2 := by
  have w : Within { lanes := true, poses := true, air := true, counters := true } s (Machine.advancedPose k f s).2 :=
    ((seqStep_within k _ s).then (c := { lanes := true, poses := true, air := true, counters := true })
      (recordPose_within k _ _).mono).then (advanceLane_within k _ _ _).mono
  refine hs.relaned w (fun z => ?_) (advancedPose_lanes k f s) ?_
  · unfold Machine.advancedPose
    rw [advanceLane_zone, zone_congr ((recordPose_within k _ _).air rfl), zone_congr ((seqStep_within k _ _).air rfl)]
    exact hs.zones z
  · rw [Lane.advance_control]
    exact hs.halted k

theorem acceptPose (hs : ConfigHolds s) (hm : s.mode = .config) (k : Crane) (f : List Byte) :
    ConfigHolds (acceptPose k f s) := by
  have advanced := hs.advancedPose k f
  have mode : (Machine.advancedPose k f s).2.mode = .config := by
    unfold Machine.advancedPose
    rw [(advanceLane_within k _ _ _).mode, (recordPose_within k _ _).mode, (seqStep_within k _ _).mode, hm]
  rw [acceptPose_eq]
  unfold judgedPose
  rw [advanced.poseBlocks mode]
  have forwarded := advanced.within (forwardPose_within k (poseIn f).flags _)
  refine forwarded.relaned (substituteStop_within k _) (forwarded.zones.within (substituteStop_within k _))
    (substituteStop_lanes k _) ?_
  unfold Lane.substituted
  split
  · exact forwarded.halted k
  · exact forwarded.halted k

/-- A booking that is not ACTIVE is cancelled without a change of any zone. -/
theorem cancelLift (hs : ConfigHolds s) {b : Booking} (grounded : b.state ≠ .active) : ConfigHolds (cancelLift b s) := by
  unfold Machine.cancelLift
  dsimp only
  rw [if_neg grounded]
  refine report (hs.updated b.id _ fun c => ?_) b.id
  split <;> exact nofun

/-- In CONFIG no booking step but ABANDON is accepted, and that on a booking that is not ACTIVE (R138, R142 to R144). -/
theorem bookingStep (hs : ConfigHolds s) (hm : s.mode = .config) (k : Crane) (step id : Nat) :
    ConfigHolds (bookingStep k step id s).2 := by
  have begun (b : Booking) : ConfigHolds (stepBegin k b s).2 := by
    unfold stepBegin
    split
    · exact hs
    · rename_i accepted
      exfalso
      unfold beginRefusal at accepted
      simp only [hm, true_or, if_true] at accepted
      repeat' split at accepted
      all_goals cases accepted
  unfold Machine.bookingStep
  split
  · exact hs
  split
  · exact hs
  rename_i b hb
  have ground := hs.grounded b (mem_of_findBooking hb)
  split
  · exact hs
  split
  · exact begun b
  split
  · unfold stepLegDone
    split
    · rename_i active
      exact absurd active ground
    all_goals exact hs
  split
  · unfold stepEnd
    split
    · rename_i active
      exact absurd active ground
    all_goals exact hs
  · unfold stepAbandon
    split
    · exact hs
    · dsimp only
      exact hs.cancelLift ground

theorem acceptDemand (hs : ConfigHolds s) (hm : s.mode = .config) (k : Crane) (f : List Byte) :
    ConfigHolds (acceptDemand k f s) := by
  have cabbed : ConfigHolds (cabStep k s) :=
    hs.relaned (cabStep_within k s) (hs.zones.within (cabStep_within k s)) (cabStep_lanes k s) (hs.halted k)
  have mode : (cabStep k s).mode = .config := (cabStep_within k s).mode.trans hm
  have stepped (d : DemandIn) : ConfigHolds (stepOnDemand k d (cabStep k s)) := by
    unfold stepOnDemand
    split
    · exact cabbed
    · have booked := cabbed.bookingStep mode k d.step d.booking
      exact booked.setLane k (booked.halted k)
  have governed {t : State} (ht : ConfigHolds t) (q : PerAxis Int) : ConfigHolds (govern k q t).2 := by
    have flagged : (reasonFlags t k).any = true := by
      unfold reasonFlags ReasonFlags.any
      rw [ht.halted k]
      simp
    unfold govern
    rw [if_pos flagged]
    exact ht.within (zeroDemand_within k q t)
  have sent {t : State} (ht : ConfigHolds t) (v : PerAxis Int) (c : PerAxis Bool) (r : ReasonFlags) :
      ConfigHolds (sendDemand k v c r false t) :=
    ht.relaned (sendDemand_within k v c r false t) (ht.zones.within (sendDemand_within k v c r false t))
      (sendDemand_lanes k v c r false t) (ht.halted k)
  have timed {t : State} (ht : ConfigHolds t) (v : PerAxis Int) : ConfigHolds (reloadTimer k v t) :=
    ht.rezoned (reloadTimer_within k v t) fun z => by rw [reloadTimer_zone]; exact ht.zones z
  exact timed (sent (governed (stepped _) _) _ _ _) _

/-! ### Timers -/

theorem leaveLive (hs : ConfigHolds s) (k : Crane) : ConfigHolds (leaveLive k s) :=
  hs.rezoned (leaveLive_within k s) ((hs.zones.withdrawWait k).setArb k _)

theorem becomeStale (hs : ConfigHolds s) (hm : s.mode = .config) (k : Crane) : ConfigHolds (becomeStale k s) := by
  have stopped := (hs.setLane k (l := { s.lane k with tstale := none }) (hs.halted k)).setLaneState k .stale
  have started : ConfigHolds (startTlost k (Machine.setLaneState k .stale (s.setLane k { s.lane k with tstale := none }))) :=
    stopped.setLane k (stopped.halted k)
  have mode : (startTlost k (Machine.setLaneState k .stale (s.setLane k { s.lane k with tstale := none }))).mode
      = .config := (setLaneState_within k .stale _).mode.trans hm
  unfold Machine.becomeStale
  dsimp only
  rw [mode, if_neg nofun]
  have cleared := (started.leaveLive k).within (clearMarks_within k _)
  rw [cleared.suspend]
  exact cleared

theorem becomeLost (hs : ConfigHolds s) (k : Crane) : ConfigHolds (becomeLost k s) := by
  have lost := (hs.setLane k (l := { s.lane k with tlost := none }) (hs.halted k)).setLaneState k .lost
  unfold Machine.becomeLost
  rw [lost.haltState]
  exact lost.within (trigger_within _ _ _ _)

theorem becomeSilent (hs : ConfigHolds s) (k : Crane) : ConfigHolds (becomeSilent k s) :=
  hs.relaned (becomeSilent_within k s) (hs.zones.within (becomeSilent_within k s)) (becomeSilent_lanes k s) (hs.halted k)

/-! ### Expiries of site time -/

theorem expireOverride (hs : ConfigHolds s) (z : Zone) : ConfigHolds (expireOverride z s) := by
  have reverted := (hs.within (revertPerm_within z s)).within
    (offer_within { kind := .permissionExpired, zone := some z, value := permCode ((revertPerm z s).perm z).current } _)
  unfold Machine.expireOverride
  dsimp only
  rw [reverted.zones.reexamine]
  exact reverted

theorem expireGrant (hs : ConfigHolds s) (g : Grant) : ConfigHolds (expireGrant g s) := by
  have removed := (hs.within (setGrants_within s (withoutGrant s.access.grants g.crane g.zone))).within
    (offer_within { kind := .grantExpired, crane := some g.crane, zone := some g.zone, value := permCode g.uses } _)
  unfold Machine.expireGrant
  dsimp only
  rw [removed.zones.reexamine]
  exact removed

theorem openWindow (hs : ConfigHolds s) (id : Nat) : ConfigHolds (openWindow id s) := by
  refine report (hs.updated id _ fun _ => ?_) id
  exact nofun

theorem closeWindow (hs : ConfigHolds s) {b : Booking} (grounded : b.state ≠ .active) : ConfigHolds (closeWindow b s) := by
  unfold Machine.closeWindow
  split
  · refine report (hs.updated b.id _ fun _ => ?_) b.id
    exact nofun
  · refine report (hs.updated b.id _ fun _ => ?_) b.id
    exact nofun
  · rename_i active
    exact absurd active grounded
  all_goals exact hs

theorem takeSiteDue (hs : ConfigHolds s) (d : SiteDue) : ConfigHolds (takeSiteDue s d) := by
  unfold Machine.takeSiteDue
  split
  · exact hs.expireOverride _
  · split
    · exact hs
    · exact hs.expireGrant _
  · exact hs.openWindow _
  · split
    · exact hs
    · rename_i b hb
      exact hs.closeWindow (hs.grounded b (mem_of_findBooking hb))

theorem takeDues (hs : ConfigHolds s) (t fuel : Nat) : ConfigHolds (takeDues t fuel s) := by
  induction fuel generalizing s with
  | zero => exact hs
  | succ fuel ih =>
    rw [Machine.takeDues]
    split
    · exact hs
    · rename_i d _
      exact ih (takeSiteDue (s := { s with freeCount := s.freeCount + 1 }) (hs.touches (w := {}) (Within.refl _ _)) d)

/-! ### Requests in CONFIG -/

theorem applyZoneTable (hs : ConfigHolds s) (t : ZoneTable) : ConfigHolds (applyZoneTable t s) := by
  have tabled : ConfigHolds (s.setSite { s.site with zoneTable := some t, zoneStaging := Vector.replicate 4 none }) :=
    { hs with }
  have aligned := foldl_keeps (fun u z (hu : ConfigHolds u) => hu.within (alignPerm_within s.site.zoneTable u z)) allZones _
    tabled
  unfold Machine.applyZoneTable
  dsimp only
  rw [aligned.zones.reexamine]
  exact foldl_keeps (fun u z (hu : ConfigHolds u) => by rw [hu.zones.judgeLimit]; exact hu) _ _ aligned

/-- In CONFIG a commit changes tables, permissions and grants, and leaves nothing pending (R16, R19, R20). -/
theorem commit (hs : ConfigHolds s) (hm : s.mode = .config) (tag : Byte) (tgt : Target) (set : Byte) :
    ConfigHolds (commit tag tgt set s).2 := by
  have structural (k : Crane) (c : StructuralCommit) : ConfigHolds (takeStructural k tag c s).2 := by
    have emptied : ConfigHolds (emptySlots k c s) := { hs with }
    have replaced : replaceStructural k (emptySlots k c s) = emptySlots k c s := by
      unfold replaceStructural
      rw [emptied.structural k]
    unfold takeStructural
    dsimp only
    rw [replaced, if_pos (show (emptySlots k c s).mode = .config from hm)]
    exact { emptied with }
  have policy (k : Crane) : ConfigHolds (commitPolicy k tag s).2 := by
    have emptied : ConfigHolds (s.setStaging k { s.staging k with policy := none }) := { hs with }
    have replaced : replacePolicy k (s.setStaging k { s.staging k with policy := none })
        = s.setStaging k { s.staging k with policy := none } := by
      unfold replacePolicy
      rw [emptied.policyCommit k]
    unfold commitPolicy
    split
    · exact hs
    split
    · exact hs
    split
    · exact hs
    · dsimp only
      rw [replaced, if_pos (show (s.setStaging k { s.staging k with policy := none }).mode = .config from hm)]
      exact { emptied with }
  have crane (k : Crane) : ConfigHolds (commitForCrane k tag set s).2 := by
    unfold commitForCrane
    split
    · exact hs
    · exact hs
    · exact policy k
    · unfold commitStructural judgeStructural
      dsimp only
      split
      · exact hs
      split
      · exact hs
      split
      · exact hs
      split
      · exact hs
      · exact structural k _
  have site : ConfigHolds (commitForSite set s).2 := by
    unfold commitForSite commitZoneTable
    split
    · exact hs
    · split
      · exact hs
      split
      · exact hs
      split
      · exact hs
      · dsimp only
        exact hs.applyZoneTable _
    · exact hs
    · exact hs
  unfold Machine.commit
  split
  · exact site
  split
  · exact hs
  · exact crane _

theorem loadSegment (hs : ConfigHolds s) (tgt : Target) (seg : Nat) (content : Segment) :
    ConfigHolds (loadSegment tgt seg content s).2 := by
  have staged (k : Crane) (c : CraneStaging) : ConfigHolds (s.setStaging k c) := { hs with }
  have site : ConfigHolds (loadForSite seg content s).2 := by
    unfold loadForSite
    split
    · split
      · split
        · exact { hs with }
        · exact hs
      · exact hs
    all_goals exact hs
  have crane (k : Crane) : ConfigHolds (loadForCrane k seg content s).2 := by
    unfold loadForCrane
    split
    · split
      · exact hs
      split
      · exact hs
      · exact staged k _
    · split
      · split
        · exact hs
        split
        · exact hs
        · exact staged k _
      · exact hs
    · split
      · exact hs
      split
      · exact hs
      · exact staged k _
    · split
      · exact hs
      · exact staged k _
    · exact hs
    · exact hs
  unfold Machine.loadSegment
  split
  · exact site
  split
  · exact hs
  · exact crane _

end ConfigHolds

end Sys2Proof.Machine

/-! PROOFS. Every step keeps what holds in CONFIG: the requests and resets, and the step. -/

namespace Sys2Proof.Machine

set_option Elab.async false

namespace ZonesReset

variable {s : State}

/-- Without holds a suspension releases nothing, and so completes no preparation (R122). -/
theorem suspend_within (hs : ZonesReset s) (k : Crane) (why : SuspendReason) :
    Within { air := true, bookings := true } s (Machine.suspend k why s) := by
  cases h : activeBooking s k with
  | none => rw [suspend_of_none h]; exact Within.refl _ _
  | some b =>
    have updated := updateBooking_within b.id (suspendedRecord s b.overtime why) s
    rw [suspend_of_active h, Machine.giveUp, (hs.within updated).letGo]
    exact (reportBooking_within b.id _).after ((rejudgeEntries_within k _).after
      ((withdrawReservation_within k _).after updated.mono))

theorem suspends (hs : ZonesReset s) (why : SuspendReason) (l : List Crane) :
    ZonesReset (l.foldl (fun t k => Machine.suspend k why t) s)
      ∧ Within { air := true, bookings := true } s (l.foldl (fun t k => Machine.suspend k why t) s) :=
  foldl_keeps (P := fun t => ZonesReset t ∧ Within { air := true, bookings := true } s t)
    (fun _ k ⟨zones, w⟩ => ⟨zones.suspend k why, w.then (zones.suspend_within k why)⟩) l s ⟨hs, Within.refl _ _⟩

end ZonesReset

namespace ConfigHolds

variable {s t : State}

/-! ### Resets (R165, R166) -/

theorem reexamine (hs : ConfigHolds s) (before : State) : ConfigHolds (reexamine before s) := by
  rw [hs.zones.reexamine]
  exact hs

/-- The blocks at their reset values, with no lift ACTIVE (R165). -/
theorem of_reset (hu : Within { air := true, bookings := true, counters := true, recorder := true } (resetBlocks (resetSite s)) t)
    (zones : ZonesReset t) (grounded : ∀ b ∈ t.bookings, b.state ≠ .active) : ConfigHolds t where
  zones := zones
  halted k := by
    rw [lane_congr (hu.lanes rfl)]
    simp [State.lane, resetBlocks, Lane.reset]
  idle k := by
    rw [wind_congr (hu.winds rfl)]
    simp [State.wind, resetBlocks, WindRec.initial]
  vanes k := by
    rw [vane_congr (hu.vanes rfl)]
    simp [State.vane, resetBlocks]
  grounded := grounded
  structural k := by
    rw [hu.site rfl]
    simp [resetBlocks, resetSite]
  policyCommit k := by
    rw [hu.site rfl]
    simp [resetBlocks, resetSite]

theorem initialise (hs : ConfigHolds s) (k : Crane) : ConfigHolds (initialise k false s).2 := by
  have w := initialise_within k false s
  refine { zones := hs.zones.within w, halted := fun j => ?_, idle := fun j => ?_, vanes := fun j => ?_, grounded := ?_,
           structural := ?_, policyCommit := ?_ }
  · rw [lane_congr (w.lanes rfl)]
    exact hs.halted j
  · unfold Machine.initialise
    dsimp only
    rw [State.setWind_wind]
    split
    · rfl
    · rename_i hj
      rw [wind_congr (setLevel_winds k .calm s), State.setWind_wind_ne _ _ _ _ hj]
      exact hs.idle j
  · rw [vane_congr (w.vanes rfl)]
    exact hs.vanes j
  · rw [w.bookings rfl]
    exact hs.grounded
  · rw [w.site rfl]
    exact hs.structural
  · rw [w.site rfl]
    exact hs.policyCommit

theorem setVaneRec (hs : ConfigHolds s) (k : Crane) : ConfigHolds (setVaneRec k .reset s) := by
  have w := setVaneRec_within k .reset s
  refine { zones := hs.zones.within w, halted := fun j => ?_, idle := fun j => ?_, vanes := fun j => ?_, grounded := ?_,
           structural := ?_, policyCommit := ?_ }
  · rw [lane_congr (w.lanes rfl)]
    exact hs.halted j
  · rw [wind_congr (w.winds rfl)]
    exact hs.idle j
  · rw [vane_congr (setVaneRec_vanes k .reset s), State.setVane_vane]
    split
    · rfl
    · exact hs.vanes j
  · rw [w.bookings rfl]
    exact hs.grounded
  · rw [w.site rfl]
    exact hs.structural
  · rw [w.site rfl]
    exact hs.policyCommit

theorem restart (hs : ConfigHolds s) (hm : s.mode = .config) (k : Crane) : ConfigHolds (restart k s) := by
  have lane : ConfigHolds (restartLane k s) :=
    hs.relaned (restartLane_within k s) (hs.zones.within (restartLane_within k s)) (restartLane_lanes k s) rfl
  have mode : (restartLane k s).mode = .config := (restartLane_within k s).mode.trans hm
  have arbiter : ConfigHolds (restartArbiter k (restartLane k s)) := by
    unfold restartArbiter
    dsimp only
    rw [mode, if_neg nofun]
    exact lane.rezoned (setArb_within _ k _) (lane.zones.setArb k _)
  have vane := (arbiter.within (setGov_within _ k .reset)).setVaneRec k
  have config : (Machine.setVaneRec k .reset ((restartArbiter k (restartLane k s)).setGov k .reset)).mode = .config := by
    rw [(setVaneRec_within k _ _).mode, (setGov_within _ k _).mode, (restartArbiter_within k _).mode, mode]
  have idle := vane.initialise k
  unfold Machine.restart
  dsimp only
  rw [config, show (Mode.config == Mode.operating) = false from rfl, Bool.false_and, idle.suspend]
  exact idle.within (clearCounters_within k _)

end ConfigHolds

theorem zonesReset_of_reset (s : State) : ZonesReset (resetBlocks (resetSite s)) := fun z => by
  simp [State.zone, resetBlocks, Air.reset]

/-- SITE RESET leaves the blocks at their reset values and no lift ACTIVE (R165). -/
theorem siteReset_configSound {s : State} (table : TableKept s) (hs : ConfigSound s) (tgt : Target) :
    ConfigSound (siteReset tgt s).2 := by
  unfold siteReset
  split
  · exact hs
  · obtain ⟨zones, w⟩ := (zonesReset_of_reset s).suspends .reset allCranes
    have grounded := grounded_of_suspends (s := resetBlocks (resetSite s)) table .reset
    dsimp only
    exact configSound_iff.2 fun _ => ConfigHolds.of_reset ((resetRecorder_within _).after w.mono)
      (zones.within (resetRecorder_within _)) fun b hb => grounded b ((resetRecorder_within _).bookings rfl ▸ hb)

/-- What is kept: a sound Booking Table, and what holds in CONFIG. -/
def ConfigKept (s : State) : Prop := TableKept s ∧ ConfigSound s

/-- An operation that leaves the mode keeps what holds in CONFIG when it keeps it in CONFIG. -/
theorem ConfigSound.of_mode {s t : State} (hs : ConfigSound s) (mode : t.mode = s.mode)
    (keeps : ConfigHolds s → s.mode = .config → ConfigHolds t) : ConfigSound t :=
  configSound_iff.2 fun hm => keeps (configSound_iff.1 hs (mode ▸ hm)) (mode ▸ hm)

theorem configSound_of_operating {s : State} (hm : s.mode = .operating) : ConfigSound s :=
  configSound_iff.2 fun h => by rw [hm] at h; cases h

theorem startOperating_mode (s : State) : (startOperating s).mode = .operating := (startOperating_within s).mode

theorem takeDues_mode (t fuel : Nat) (s : State) : (takeDues t fuel s).mode = s.mode := by
  induction fuel generalizing s with
  | zero => rfl
  | succ fuel ih =>
    rw [takeDues]
    split
    · rfl
    · rw [ih, (takeSiteDue_within _ _).mode]

theorem setSiteTime_configSound {s : State} (hs : ConfigSound s) (tgt : Target) (t : Nat) :
    ConfigSound (setSiteTime tgt t s).2 := by
  unfold setSiteTime
  split
  · exact hs
  · have taken : ConfigSound (if s.clock.siteTime < t then takeDues t (duesBound s) s else s) := by
      split
      · exact hs.of_mode (takeDues_mode _ _ _) fun h _ => h.takeDues _ _
      · exact hs
    exact taken

theorem judged_configSound {i : Instr} {s : State} {j : Judged} (hj : judgeRequest i s = some j) (table : TableKept s)
    (hs : ConfigSound s) : ConfigSound j.after := by
  cases i with
  | loadSegment tag tgt seg content =>
    cases hj
    exact hs.of_mode (loadSegment_within tgt seg content s).mode fun h _ => h.loadSegment tgt seg content
  | commit tag tgt set =>
    cases hj
    exact hs.of_mode (commit_within tag tgt set s).mode fun h hm => h.commit hm tag tgt set
  | commence tag tgt =>
    cases hj
    show ConfigSound (commence tgt s).2
    unfold commence
    split
    · exact hs
    split
    · exact hs
    split
    · exact hs
    · exact configSound_of_operating (startOperating_mode s)
  | siteReset tag tgt => cases hj; exact siteReset_configSound table hs tgt
  | craneRestart tag tgt =>
    cases hj
    refine hs.of_mode (craneRestart_within tgt s).mode fun h hm => ?_
    show ConfigHolds (craneRestart tgt s).2
    unfold craneRestart
    split
    · exact h
    · exact h.restart hm _
  | setSiteTime tag tgt t =>
    cases hj
    exact setSiteTime_configSound hs tgt t
  | haltCrane tag tgt =>
    cases hj
    refine hs.of_mode (haltCrane_within tgt s).mode fun h hm => ?_
    show ConfigHolds (haltCrane tgt s).2
    unfold haltCrane
    split
    · exact h
    · dsimp only
      rw [h.haltState]
      exact h
  | releaseCrane tag tgt =>
    cases hj
    refine hs.of_mode (releaseCrane_within tgt s).mode fun h hm => ?_
    show ConfigHolds (releaseCrane tgt s).2
    unfold releaseCrane
    split
    · exact h
    split
    · exact h
    · exact h
  | resumeCrane tag tgt =>
    cases hj
    refine hs.of_mode (resumeCrane_within tgt s).mode fun h hm => ?_
    show ConfigHolds (resumeCrane tgt s).2
    unfold resumeCrane
    split
    · exact h
    split
    · exact h
    · rw [if_pos (by rw [h.vanes]; exact nofun)]
      exact h
  | forceReleaseZone tag tgt =>
    cases hj
    refine hs.of_mode (forceReleaseZone_within tgt s).mode fun h hm => ?_
    show ConfigHolds (forceReleaseZone tgt s).2
    unfold forceReleaseZone
    split
    · exact h
    split
    · exact h
    · exact h
  | setZonePermissions tag tgt mode p e =>
    cases hj
    refine hs.of_mode (setZonePermissions_within tgt mode p e s).mode fun h _ => ?_
    show ConfigHolds (setZonePermissions tgt mode p e s).2
    unfold setZonePermissions
    split
    · exact h
    split
    · exact h
    split
    · exact h
    split
    · split
      · exact h
      · dsimp only
        exact (h.within (setPerm_within s _ _)).reexamine s
    · dsimp only
      exact (h.within (revertPerm_within _ s)).reexamine s
  | grantAccess tag tgt z u e =>
    cases hj
    refine hs.of_mode (grantAccess_within tgt z u e s).mode fun h _ => ?_
    show ConfigHolds (grantAccess tgt z u e s).2
    unfold grantAccess
    dsimp only
    split
    · exact h
    split
    · exact h
    split
    · exact h
    split
    · exact h
    split
    · exact h
    split
    · dsimp only
      exact (h.within (setGrants_within s _)).reexamine s
    split
    · exact h
    · dsimp only
      exact (h.within (setGrants_within s _)).reexamine s
  | revokeAccess tag tgt z =>
    cases hj
    refine hs.of_mode (revokeAccess_within tgt z s).mode fun h _ => ?_
    show ConfigHolds (revokeAccess tgt z s).2
    unfold revokeAccess
    split
    · split
      · dsimp only
        exact (h.within (setGrants_within s _)).reexamine s
      · exact h
    · exact h
  | bookLift tag tgt p =>
    cases hj
    refine hs.of_mode (bookLift_within tgt p s).mode fun h _ => ?_
    show ConfigHolds (bookLift tgt p s).2
    unfold bookLift
    split
    · exact h
    split
    · exact h
    · rename_i admitted
      refine ConfigHolds.report (h.rebooked fun c hc => ?_) _
      rcases List.mem_append.1 hc with hc | hc
      · exact h.grounded c hc
      · rw [List.mem_singleton.1 hc]
        rcases (admitted_of_admission admitted).grounded with st | st <;> rw [st] <;> exact nofun
  | cancelBooking tag tgt =>
    cases hj
    refine hs.of_mode (cancelBooking_within tgt s).mode fun h _ => ?_
    show ConfigHolds (cancelBooking tgt s).2
    unfold cancelBooking
    split
    · exact h
    split
    · exact h
    · rename_i b hb _
      obtain ⟨id, -, hb⟩ := Option.bind_eq_some_iff.1 hb
      exact h.cancelLift (h.grounded b (mem_of_findBooking hb))
  | retireBooking tag tgt =>
    cases hj
    refine hs.of_mode (retireBooking_within tgt s).mode fun h _ => ?_
    show ConfigHolds (retireBooking tgt s).2
    unfold retireBooking
    split
    · exact h
    split
    · exact h.rebooked fun c hc => h.grounded c (List.mem_of_mem_filter hc)
    · exact h
  | readCapture tag tgt part =>
    cases hj
    exact hs.of_mode (readCapture_within tgt part s).mode fun h _ => h.within (readCapture_within tgt part s)
  | snapshotCounters tag tgt =>
    cases hj
    exact hs.of_mode (snapshotCounters_within tgt s).mode fun h _ => h.within (snapshotCounters_within tgt s)
  | setReporting tag tgt c =>
    cases hj
    exact hs.of_mode (setReporting_within tgt c s).mode fun h _ => h.within (setReporting_within tgt c s)
  | triggerCapture tag tgt =>
    cases hj
    exact hs.of_mode (triggerCapture_within tgt s).mode fun h _ => h.within (triggerCapture_within tgt s)
  | readCrane | readZone | readBooking | readCounters => cases hj; exact hs
  | _ => cases hj

theorem powerOn_configHolds (waiting : List Instr) (sent : List Sent) (free : Nat) :
    ConfigHolds { State.reset with pending := waiting, sent := sent, freeCount := free } where
  zones z := by simp [State.zone, State.reset, Air.reset]
  halted k := by simp [State.lane, State.reset, Lane.reset]
  idle k := by simp [State.wind, State.reset, WindRec.initial]
  vanes k := by simp [State.vane, State.reset]
  grounded _ hb := absurd hb List.not_mem_nil
  structural k := by simp [State.reset, Site.reset]
  policyCommit k := by simp [State.reset, Site.reset]

theorem configKept_closed : StepClosed ConfigKept := by
  have closed := TableKept.blockClosed.stepClosed
  exact {
    outer := fun s now clock line waiting free hs => ⟨hs.1, hs.2⟩
    powerOn := fun waiting sent free s hs same => ⟨closed.powerOn waiting sent free s hs.1 same, configSound_iff.2 fun _ => powerOn_configHolds _ _ _⟩
    pose := fun k f s hs => ⟨closed.pose k f s hs.1, hs.2.of_mode (acceptPose_within k f s).mode fun h hm => h.acceptPose hm k f⟩
    demand := fun k f s hs =>
      ⟨closed.demand k f s hs.1, hs.2.of_mode (acceptDemand_within k f s).mode fun h hm => h.acceptDemand hm k f⟩
    rejected := fun k s hs => ⟨closed.rejected k s hs.1, hs.2.of_mode (count_within k _ 1 s).mode fun h _ =>
      h.within (count_within k _ 1 s)⟩
    assembly := fun a s hs => ⟨hs.1, hs.2⟩
    judged := fun i s j hj hs => ⟨closed.judged i s j hj hs.1, judged_configSound hj hs.1 hs.2⟩
    answer := fun q tag rs hs => ⟨closed.answer q tag rs hs.1, hs.2.of_mode (answer_within q tag rs).mode fun h _ =>
      h.within (answer_within q tag rs)⟩
    answerRead := fun q tag rs hs => ⟨closed.answerRead q tag rs hs.1, hs.2.of_mode (answerRead_within q tag rs).mode
      fun h _ => h.within (answerRead_within q tag rs)⟩
    unknown := fun _ _ s hs => ⟨hs.1, hs.2⟩
    stale := fun k s hs live => ⟨closed.stale k s hs.1 live, hs.2.of_mode (becomeStale_within k s).mode fun h hm =>
      h.becomeStale hm k⟩
    lost := fun k s hs stale => ⟨closed.lost k s hs.1 stale, hs.2.of_mode (becomeLost_within k s).mode fun h _ =>
      h.becomeLost k⟩
    silent := fun k s hs active => ⟨closed.silent k s hs.1 active, hs.2.of_mode (becomeSilent_within k s).mode fun h _ =>
      h.becomeSilent k⟩
    limit := fun z s hs => ⟨closed.limit z s hs.1, hs.2.of_mode (markVacate_within z _ s).mode fun h _ => by
      rw [h.zones.markVacate]
      exact h⟩
    blocked := fun k s hs preparing => ⟨closed.blocked k s hs.1 preparing, hs.2.of_mode (blockPreparation_within k s).mode
      fun h _ => by
        rw [h.vanes k] at preparing
        cases preparing⟩
    paced := fun t s hs => ⟨closed.paced t s hs.1, hs.2.of_mode (sendHead_within _).mode fun h _ =>
      ConfigHolds.within (s := s.setRecorder { s.recorder with paceTimer := t }) { h with } (sendHead_within _)⟩
    transfer := fun t s hs => ⟨closed.transfer t s hs.1, hs.2.of_mode (transferAll_within _).mode fun h _ =>
      ConfigHolds.within (s := s.setRecorder { s.recorder with transferTimer := t }) { h with } (transferAll_within _)⟩
    override := fun z s hs => ⟨closed.override z s hs.1, hs.2.of_mode (expireOverride_within z s).mode fun h _ =>
      h.expireOverride z⟩
    grant := fun g s hs => ⟨closed.grant g s hs.1, hs.2.of_mode (expireGrant_within g s).mode fun h _ => h.expireGrant g⟩
    opened := fun id b s hs hb logged => ⟨closed.opened id b s hs.1 hb logged, hs.2.of_mode (openWindow_within id s).mode
      fun h _ => h.openWindow id⟩
    closed := fun id b s hs hb => ⟨closed.closed id b s hs.1 hb, hs.2.of_mode (closeWindow_within b s).mode fun h _ =>
      h.closeWindow (h.grounded b (mem_of_findBooking hb))⟩ }

/-- Settles O12: in CONFIG every operation of the blocks leaves what holds there, most of them by doing nothing; COMMENCE leaves
CONFIG, and SITE RESET and POWER_ON set every block to its reset values. -/
theorem stepKeepsConfigSound : Obligations.StepKeepsConfigSound :=
  fun s t table hs ht => (step_keeps configKept_closed s t ht ⟨table, hs⟩).2

end Sys2Proof.Machine

/-! PROOFS. What a pose does to the wind level and the vane state of its crane: a level STOW that comes up is handed on, and so is
the level a start-up decision forces (R104 to R118, R129, R130). -/

namespace Sys2Proof.Machine

set_option Elab.async false

/-! ### One monitor is touched -/

/-- No Wind Monitor but that of crane k changes. -/
def WindOnly (k : Crane) (s t : State) : Prop := ∀ j, j ≠ k → t.wind j = s.wind j

namespace WindOnly

variable {k : Crane} {s t u : State}

theorem refl (k : Crane) (s : State) : WindOnly k s s := fun _ _ => rfl

theorem trans (h : WindOnly k s t) (h' : WindOnly k t u) : WindOnly k s u := fun j hj => (h' j hj).trans (h j hj)

theorem of_winds (h : t.winds = s.winds) : WindOnly k s t := fun j _ => wind_congr h j

theorem setWind (k : Crane) (w : WindRec) (s : State) : WindOnly k s (s.setWind k w) :=
  fun _ hj => State.setWind_wind_ne _ _ _ _ hj

theorem setLevel (k : Crane) (l : WindLevel) (s : State) : WindOnly k s (setLevel k l s) :=
  fun _ hj => (wind_congr (setLevel_winds k l s) _).trans (State.setWind_wind_ne _ _ _ _ hj)

theorem judgeRaise (k : Crane) (p : Policy) (figure : Nat) (s : State) : WindOnly k s (judgeRaise k p figure s) := by
  unfold Machine.judgeRaise
  dsimp only
  split
  · exact setWind k _ s
  · exact (setWind k _ s).trans (setLevel k _ _)

theorem judgeClear (k : Crane) (p : Policy) (figure : Nat) (s : State) : WindOnly k s (judgeClear k p figure s) := by
  unfold Machine.judgeClear
  dsimp only
  split
  · exact refl k s
  split
  · exact setWind k _ s
  split
  · exact setWind k _ s
  · exact (setWind k _ s).trans (setLevel k _ _)

theorem policyStep (k : Crane) (s : State) : WindOnly k s (policyStep k s) := by
  unfold Machine.policyStep
  split
  · exact refl k s
  split
  · intro j hj
    unfold applyPolicy commitResult
    dsimp only
    rw [wind_congr ((offer_within _ _).winds rfl), State.setWind_wind_ne _ _ _ _ hj]
    rfl
  · exact refl k s

end WindOnly

/-! ### A level STOW that comes up is handed on (R118) -/

/-- From `s` to `t` a level of crane k that becomes STOW is among the levels handed; no other monitor changes. -/
structure LevelTold (k : Crane) (s : State) (levels : List WindLevel) (t : State) : Prop where
  stow : (t.wind k).level = .stow → (s.wind k).level = .stow ∨ WindLevel.stow ∈ levels
  others : WindOnly k s t

namespace LevelTold

variable {k : Crane} {s t u : State} {l m : List WindLevel}

theorem trans (h : LevelTold k s l t) (h' : LevelTold k t m u) : LevelTold k s (l ++ m) u where
  stow hu := (h'.stow hu).elim (fun ht => (h.stow ht).imp_right (List.mem_append_left m)) fun hm =>
    .inr (List.mem_append_right l hm)
  others := h.others.trans h'.others

theorem of_level (h : (t.wind k).level = (s.wind k).level) (others : WindOnly k s t) : LevelTold k s [] t where
  stow ht := .inl (h ▸ ht)
  others := others

theorem of_handed (others : WindOnly k s t) : LevelTold k s (handed (s.wind k).level (t.wind k).level) t where
  stow ht := by
    unfold handed
    split
    · rename_i same
      exact .inl (same.trans ht)
    · exact .inr (by rw [ht]; exact List.mem_singleton_self _)
  others := others

theorem refl (k : Crane) (s : State) : LevelTold k s [] s := of_level rfl (.refl k s)

theorem setWind {w : WindRec} (h : w.level = (s.wind k).level) : LevelTold k s [] (s.setWind k w) :=
  of_level (by rw [State.setWind_wind_self, h]) (.setWind k w s)

theorem policyStep (k : Crane) (s : State) : LevelTold k s [] (policyStep k s) := by
  refine of_level ?_ (.policyStep k s)
  unfold Machine.policyStep
  split
  · rfl
  split
  · unfold applyPolicy commitResult
    dsimp only
    rw [wind_congr ((offer_within _ _).winds rfl), State.setWind_wind_self]
  · rfl

theorem qualify (k : Crane) (x : Nat) (s : State) : LevelTold k s (qualify k x s).1 (qualify k x s).2 := by
  have cleared : LevelTold k s [] (Machine.policyStep k (s.setWind k { s.wind k with faultMark := false })) :=
    (setWind (w := { s.wind k with faultMark := false }) rfl).trans (policyStep k _)
  unfold Machine.qualify
  dsimp only
  split
  · exact cleared
  · rename_i p _
    have judged (figure : Nat) (t : State) : LevelTold k t
        (handed (t.wind k).level ((judgeRaise k p figure t).wind k).level
          ++ handed ((judgeRaise k p figure t).wind k).level ((judgeClear k p figure (judgeRaise k p figure t)).wind k).level)
        (judgeClear k p figure (judgeRaise k p figure t)) :=
      (of_handed (.judgeRaise k p figure t)).trans (of_handed (.judgeClear k p figure _))
    have advanced (t : State) : LevelTold k t [] (t.setWind k ((t.wind k).advance p x)) := setWind rfl
    exact cleared.trans ((advanced _).trans (judged _ _))

theorem degrade (k : Crane) (p : Policy) (s : State) : LevelTold k s (degrade k p s).1 (degrade k p s).2 := by
  have marked : LevelTold k s [] (offer { kind := .sensorFault, crane := some k, value := p.faultRun }
      (s.setWind k { s.wind k with faultMark := true })) :=
    of_level (by rw [wind_congr (offer_winds _ _), State.setWind_wind_self])
      ((WindOnly.setWind k _ s).trans (.of_winds (offer_winds _ _)))
  unfold Machine.degrade
  dsimp only
  split
  · refine marked.trans ⟨fun h => ?_, (WindOnly.setWind k _ _).trans (.setLevel k _ _)⟩
    rw [setLevel_wind] at h
    cases h
  · exact marked

theorem takeFault (k : Crane) (p : Policy) (s : State) : LevelTold k s (takeFault k p s).1 (takeFault k p s).2 := by
  have faulty : LevelTold k s [] (s.setWind k
      { s.wind k with pending := none, faultRun := min 255 ((s.wind k).faultRun + 1), clearCount := 0 }) := setWind rfl
  unfold Machine.takeFault
  dsimp only
  split
  · exact faulty.trans (degrade k p _)
  · exact faulty

theorem judgeJump (k : Crane) (j x : Nat) (s : State) : LevelTold k s (judgeJump k j x s).1 (judgeJump k j x s).2 := by
  unfold Machine.judgeJump
  split
  · exact qualify k x s
  · exact setWind rfl

theorem takeReading (k : Crane) (p : Policy) (y : Nat) (s : State) :
    LevelTold k s (takeReading k p y s).1 (takeReading k p y s).2 := by
  have taken : LevelTold k s [] (s.setWind k { s.wind k with faultRun := 0, pending := none }) := setWind rfl
  unfold Machine.takeReading
  dsimp only
  split
  · exact taken.trans (judgeJump k _ y _)
  split
  · exact taken.trans ((qualify k _ _).trans (qualify k y _))
  · exact taken.trans (judgeJump k _ y _)

theorem windOnPose (k : Crane) (s : State) : LevelTold k s (windOnPose k s).1 (windOnPose k s).2 := by
  unfold Machine.windOnPose takeSample
  split
  · exact refl k s
  split
  · split
    · exact refl k s
    split
    · exact takeFault k _ s
    · exact takeReading k _ _ s
  · exact refl k s

end LevelTold

end Sys2Proof.Machine

/-! PROOFS. An ACTIVE lift has a crane that may fly it (R145): what makes no booking ACTIVE and takes no vane state away from NONE
is steady; what grounds a crane suspends its lift. -/

namespace Sys2Proof.Machine

set_option Elab.async false

/-! ### Steady operations -/

/-- From `s` to `t` no booking becomes ACTIVE, and no vane state leaves NONE but, it may be, that of crane `e`. -/
def Steady (e : Option Crane) (s t : State) : Prop :=
  (∀ b ∈ t.bookings, b.state = .active → ∃ c ∈ s.bookings, c.state = .active ∧ c.crane = b.crane)
    ∧ ∀ k, some k ≠ e → (s.vane k).state = .none → (t.vane k).state = .none

/-- A release leaves the vane record of a crane whose state is NONE: it completes the preparation of no other (R122). -/
theorem release_vane_same {z : Zone} {s : State} {k : Crane} (h : (s.vane k).state = .none) :
    (release z s).vane k = s.vane k := by
  unfold release
  dsimp only
  split
  · rename_i c _
    have before (t : State) (ht : t.vanes = s.vanes) : (checkVaning c t).vane k = s.vane k := by
      unfold checkVaning
      split
      · rename_i preparing
        rw [vane_congr (setVaneRec_vanes c _ t), State.setVane_vane, if_neg ?_, vane_congr ht]
        rintro rfl
        rw [vane_congr ht, h] at preparing
        cases preparing.1
      · exact vane_congr ht k
    refine before _ ?_
    rw [State.setZone_vanes, (dropEntry_within c z _).vanes rfl, State.setZone_vanes]
  · exact vane_congr ((offerGrant_within z _ _).vanes rfl) k

theorem release_vane {z : Zone} {s : State} {k : Crane} (h : (s.vane k).state = .none) :
    ((release z s).vane k).state = .none := by
  rw [release_vane_same h, h]

namespace Steady

variable {e : Option Crane} {s t u : State}

theorem refl (e : Option Crane) (s : State) : Steady e s s := ⟨fun b hb active => ⟨b, hb, active, rfl⟩, fun _ _ h => h⟩

theorem within {w : Touch} (hs : Steady e s t) (h : Within w t u) (bookings : w.bookings = false := by rfl)
    (vanes : w.vanes = false := by rfl) : Steady e s u :=
  ⟨by rw [h.bookings bookings]; exact hs.1, fun k hk none => by rw [vane_congr (h.vanes vanes)]; exact hs.2 k hk none⟩

theorem trans (hs : Steady e s t) (h : Steady e t u) : Steady e s u := by
  refine ⟨fun b hb active => ?_, fun k hk none => h.2 k hk (hs.2 k hk none)⟩
  obtain ⟨c, hc, activeC, crane⟩ := h.1 b hb active
  obtain ⟨d, hd, activeD, crane'⟩ := hs.1 c hc activeC
  exact ⟨d, hd, activeD, crane'.trans crane⟩

theorem weaken (h : Steady none s t) (e : Option Crane) : Steady e s t := ⟨h.1, fun k _ => h.2 k nofun⟩

/-- A change of a record that makes it ACTIVE only where it was. -/
theorem update (hs : Steady e s t) (id : Nat) (f : Booking → Booking)
    (keeps : ∀ b, (f b).state = .active → b.state = .active ∧ (f b).crane = b.crane) :
    Steady e s (updateBooking id f t) := by
  refine hs.trans ⟨fun b hb active => ?_, fun _ _ h => h⟩
  obtain ⟨c, hc, rfl⟩ := List.mem_map.1 hb
  split at active
  · rename_i same
    rw [if_pos same]
    exact ⟨c, hc, (keeps c active).1, (keeps c active).2.symm⟩
  · rename_i other
    rw [if_neg other]
    exact ⟨c, hc, active, rfl⟩

theorem setVaneRec {k : Crane} (hs : Steady (some k) s t) (v : VaneRec) : Steady (some k) s (setVaneRec k v t) := by
  refine ⟨by rw [(setVaneRec_within k v t).bookings rfl]; exact hs.1, fun j hj none => ?_⟩
  rw [vane_congr (setVaneRec_vanes k v t), State.setVane_vane_ne _ _ _ _ fun h => hj (by rw [h])]
  exact hs.2 j hj none

theorem airClosed (e : Option Crane) (s : State) : AirClosed (Steady e s) where
  frame hs h _ bookings vanes :=
    ⟨by rw [h.bookings bookings]; exact hs.1, fun k hk none => by rw [vane_congr (h.vanes vanes)]; exact hs.2 k hk none⟩
  outcome id _ _ hs := hs.update id _ fun _ active => ⟨active, rfl⟩
  arb k a t hs := hs.within (setArb_within t k a)
  acquire k z h t hs _ _ := hs.within (acquire_within k z h t)
  kind _ z h t hs _ _ := hs.within (setKind_within z h t)
  mark z c t hs := hs.within (markVacate_within z c t)
  refresh c z t hs := hs.within (refreshEntry_within c z t)
  remove c z t hs := hs.within (removeEntry_within c z t)
  join c z t hs _ := hs.within (joinQueue_within c z t)
  release z t hs := ⟨by rw [(release_within z t).bookings rfl]; exact hs.1, fun k hk none => release_vane (hs.2 k hk none)⟩
  sweep k z t hs := hs.within (sweepZone_within k t z)
  unpend k z t hs := hs.within (unpendZone_within k t z)
  unsweep _ z _ _ _ t hs _ _ _ := hs.within (setZone_within t z _)

theorem report (hs : Steady e s t) (id : Nat) : Steady e s (reportBooking id t) := hs.within (reportBooking_within id t)

theorem suspend (e : Option Crane) (k : Crane) (why : SuspendReason) (s : State) : Steady e s (suspend k why s) := by
  cases h : activeBooking s k with
  | none => rw [suspend_of_none h]; exact refl e s
  | some b =>
    rw [suspend_of_active h]
    exact report ((airClosed e s).giveUp k ((refl e s).update b.id _ fun c active =>
      absurd active (suspendedRecord_not_active _ _ _ _))) b.id

/-! ### Vane Control -/

theorem enterPreparing (k : Crane) (prof : Profile) (s : State) : Steady (some k) s (enterPreparing k prof s) := by
  have swept (zs : List Zone) {t : State} (ht : Steady (some k) s t) : Steady (some k) s (zs.foldl (sweepZone k) t) :=
    foldl_keeps (fun t z hu => (airClosed (some k) s).sweep k z t hu) zs t ht
  have begun (v : VaneRec) : Steady (some k) s (withdrawWait k (Machine.setVaneRec k v s)) :=
    (airClosed (some k) s).withdrawWait k ((refl _ s).setVaneRec v)
  unfold Machine.enterPreparing checkVaning
  dsimp only
  split
  · exact (swept _ (begun _)).setVaneRec _
  · exact swept _ (begun _)

theorem returnSwept (k : Crane) (s : State) : Steady (some k) s (returnSwept k s) := by
  have returned (f : List Occ) {t : State} (ht : Steady (some k) s t) : Steady (some k) s (allZones.foldl (returnZone k f) t) :=
    foldl_keeps (fun _ z hu => (airClosed (some k) s).returnZone k f z hu) _ _ ht
  unfold Machine.returnSwept
  dsimp only
  exact (returned _ ((airClosed (some k) s).unpendZones k (refl _ s))).setVaneRec _

/-- The return of swept zones makes no vane state other than NONE. -/
theorem returnSwept_none (k : Crane) (s : State) : Steady none s (Machine.returnSwept k s) := by
  refine ⟨(returnSwept k s).1, fun j _ none => ?_⟩
  by_cases hj : j = k
  · subst hj
    unfold Machine.returnSwept
    dsimp only
    rw [vane_congr (setVaneRec_vanes j _ _), State.setVane_vane_self]
    rfl
  · exact (returnSwept k s).2 j (fun h => hj (Option.some.inj h)) none

theorem startVaning (k : Crane) (prof : Profile) (s : State) : Steady (some k) s (startVaning k prof s).2 := by
  have forced : Steady (some k) s (forceStow k s).2 := (refl _ s).within (forceStow_within k s)
  unfold Machine.startVaning
  dsimp only
  exact forced.trans (enterPreparing k prof _)

theorem judgeEntry (k : Crane) (s : State) : Steady (some k) s (judgeEntry k s) := by
  unfold Machine.judgeEntry
  split
  · exact refl _ s
  · exact AirClosed.ite (enterPreparing k _ s) (refl _ s)

theorem vaneOnPose (k : Crane) (levels : List WindLevel) (startUp : Bool) (s : State) :
    Steady (some k) s (vaneOnPose k levels startUp s).2 := by
  have abandoned : Steady (some k) s (levels.foldl (judgeAbandon k) s) := by
    refine foldl_keeps (P := Steady (some k) s) (fun t l ht => ?_) _ _ (refl _ s)
    exact AirClosed.ite (ht.trans (returnSwept k t)) ht
  unfold Machine.vaneOnPose
  dsimp only
  split
  · exact abandoned
  split
  · exact abandoned.trans (startVaning k _ _)
  · exact abandoned.trans (judgeEntry k _)

end Steady

end Sys2Proof.Machine

/-! PROOFS. Every step keeps every ACTIVE lift with a crane that may fly it (R145). `FitBut` leaves one crane out: a pose may bring
its level to STOW, or an expiry its lane out of LIVE, before its lift is suspended. -/

namespace Sys2Proof.Machine

set_option Elab.async false

/-- Every ACTIVE lift has a crane that may fly it, but, it may be, that of crane `e`. -/
def FitBut (e : Option Crane) (s : State) : Prop :=
  ∀ b ∈ s.bookings, b.state = .active → some b.crane ≠ e → fitToFly s b.crane

theorem activeSound_iff {s : State} : ActiveSound s ↔ FitBut none s :=
  ⟨fun h b hb active _ => h b hb active, fun h b hb active => h b hb active nofun⟩

/-- A crane that may fly still may when its level, vane state and lane are as they were. -/
theorem fitToFly_congr {s t : State} {k : Crane} (wind : t.wind k = s.wind k) (vane : t.vane k = s.vane k)
    (lane : t.lane k = s.lane k) : fitToFly t k ↔ fitToFly s k := by
  unfold fitToFly
  rw [wind, vane, lane]

namespace FitBut

variable {e : Option Crane} {s t : State}

theorem weaken (h : FitBut none s) (e : Option Crane) : FitBut e s := fun b hb active _ => h b hb active nofun

/-- What is steady and leaves lanes and monitors keeps every lift fit. -/
theorem steady (hs : FitBut e s) (h : Steady e s t) (lanes : ∀ k, some k ≠ e → t.lane k = s.lane k)
    (winds : ∀ k, some k ≠ e → t.wind k = s.wind k) : FitBut e t := by
  intro b hb active hk
  obtain ⟨c, hc, activeC, crane⟩ := h.1 b hb active
  obtain ⟨level, vane, live, run⟩ := hs c hc activeC (crane ▸ hk)
  rw [crane] at level vane live run
  refine ⟨?_, h.2 _ hk vane, ?_, ?_⟩
  · rw [winds _ hk]; exact level
  · rw [lanes _ hk]; exact live
  · rw [lanes _ hk]; exact run

theorem steady_within {w : Touch} (hs : FitBut e s) (h : Steady e s t) (hw : Within w s t) (lanes : w.lanes = false := by rfl)
    (winds : w.winds = false := by rfl) : FitBut e t :=
  hs.steady h (fun k _ => lane_congr (hw.lanes lanes) k) fun k _ => wind_congr (hw.winds winds) k

theorem touches {w : Touch} (hs : FitBut e s) (h : Touches w s t) (lanes : w.lanes = false) (winds : w.winds = false)
    (vanes : w.vanes = false) (bookings : w.bookings = false) : FitBut e t := by
  intro b hb active hk
  rw [h.bookings bookings] at hb
  exact (fitToFly_congr (wind_congr (h.winds winds) _) (vane_congr (h.vanes vanes) _)
    (lane_congr (h.lanes lanes) _)).2 (hs b hb active hk)

theorem within {w : Touch} (hs : FitBut e s) (h : Within w s t) (lanes : w.lanes = false := by rfl)
    (winds : w.winds = false := by rfl) (vanes : w.vanes = false := by rfl) (bookings : w.bookings = false := by rfl) :
    FitBut e t :=
  hs.touches h.touches lanes winds vanes bookings

/-- One lane is written, and stays LIVE and in RUN where it was; or its crane is the one left out. -/
theorem relaned {w : Touch} {k : Crane} {l : Lane} (hs : FitBut e s) (h : Within w s t)
    (lanes : t.lanes = (s.setLane k l).lanes)
    (flies : some k = e ∨ ((s.lane k).state = .live → l.state = .live) ∧ ((s.lane k).control = .run → l.control = .run))
    (winds : w.winds = false := by rfl) (vanes : w.vanes = false := by rfl) (bookings : w.bookings = false := by rfl) :
    FitBut e t := by
  intro b hb active hk
  rw [h.bookings bookings] at hb
  obtain ⟨level, vane, live, run⟩ := hs b hb active hk
  have levelT : (t.wind b.crane).level ≠ .stow := by rw [wind_congr (h.winds winds)]; exact level
  have vaneT : (t.vane b.crane).state = .none := by rw [vane_congr (h.vanes vanes)]; exact vane
  by_cases crane : b.crane = k
  · subst crane
    obtain ⟨stays, runs⟩ := flies.resolve_left hk
    refine ⟨levelT, vaneT, ?_, ?_⟩
    · rw [lane_of_lanes lanes]; exact stays live
    · rw [lane_of_lanes lanes]; exact runs run
  · refine ⟨levelT, vaneT, ?_, ?_⟩
    · rw [lane_of_lanes_ne lanes crane]; exact live
    · rw [lane_of_lanes_ne lanes crane]; exact run

/-- The lift of the crane left out is suspended, and no lift is left out any more. -/
theorem suspend {k : Crane} (table : TableKept s) (hs : FitBut (some k) s) (why : SuspendReason) :
    FitBut none (suspend k why s) := by
  intro b hb active _
  obtain ⟨old, crane⟩ := active_of_suspend table hb active
  obtain ⟨level, vane, live, run⟩ := hs b old active fun h => crane (Option.some.inj h)
  have w := suspend_within k why s
  refine ⟨?_, (Steady.suspend none k why s).2 _ nofun vane, ?_, ?_⟩
  · rw [wind_congr (w.winds rfl)]; exact level
  · rw [lane_congr (w.lanes rfl)]; exact live
  · rw [lane_congr (w.lanes rfl)]; exact run

/-- A record may become ACTIVE when its crane may fly. -/
theorem flown (table : TableKept s) (hs : FitBut e s) {b : Booking} (hb : b ∈ s.bookings) (f : Booking → Booking)
    (same : (f b).crane = b.crane) (fit : fitToFly s b.crane) : FitBut e (updateBooking b.id f s) := by
  intro c hc active hk
  obtain ⟨d, hd, rfl⟩ := List.mem_map.1 hc
  split
  · rename_i ids
    obtain rfl := TableSound.eq_of_id table hd hb (beq_iff_eq.1 ids)
    rw [same]
    exact fit
  · rename_i other
    rw [if_neg other] at active hk
    exact hs d hd active hk

/-- A lift resumes only with a crane that may fly it (R147). -/
theorem resume (table : TableKept s) (hs : FitBut e s) (k : Crane) : FitBut e (judgeResume k s) := by
  unfold judgeResume
  split
  · exact hs
  rename_i b h
  obtain ⟨hb, crane, suspended⟩ := suspendedBooking_eq_some h
  split
  case isFalse => exact hs
  rename_i may
  unfold mayResume at may
  simp only [Bool.and_eq_true, bne_iff_ne, ne_eq, beq_iff_eq] at may
  obtain ⟨⟨⟨level, vane⟩, live⟩, run⟩ := may
  have flown : FitBut e (updateBooking b.id (fun b => { b with state := .active }) s) :=
    flown table hs hb _ rfl (by rw [crane]; exact ⟨level, vane, live, run⟩)
  exact flown.steady_within (((Steady.airClosed e _).legEntry k (Steady.refl e _)).report b.id)
    ((reportBooking_within b.id _).after (legEntry_within k _))

end FitBut

/-- What is kept: a sound Booking Table, and every ACTIVE lift with a crane that may fly it but, it may be, that of `e`. -/
def LiftsKept (e : Option Crane) (s : State) : Prop := TableKept s ∧ FitBut e s

theorem Lane.advance_state_of_live {l : Lane} (h : l.state = .live) (last : Option Nat) (seq : Nat) (fresh : Option Nat) :
    (l.advance last seq fresh).state = .live := by
  rw [Lane.advance_of_live h]
  exact h

theorem Lane.substituted_state (l : Lane) : l.substituted.state = l.state := by
  unfold Lane.substituted
  split <;> rfl

theorem Lane.substituted_control (l : Lane) : l.substituted.control = l.control := by
  unfold Lane.substituted
  split <;> rfl

/-- What BEGIN makes of the record (R139). -/
def begunRecord (s : State) (k : Crane) (b : Booking) : Booking :=
  { b with state := .active, leg := 1, outcome :=
    { b.outcome with beginTime := some s.clock.siteTime, maxLoad := some (((s.pose k).map (·.load)).getD 0),
                     intrusions := some 0, chartOverruns := some 0 } }

theorem beginLift_eq (k : Crane) (b : Booking) (s : State) : beginLift k b s = reportBooking b.id (legEntry k
    (judgeLoad b.id (((s.pose k).map (·.load)).getD 0) (updateBooking b.id (begunRecord s k) s))) := rfl

/-- BEGIN is accepted only with a crane that may fly (R138). -/
theorem fit_of_begin {k : Crane} {b : Booking} {s : State} (h : beginRefusal k b s = none) : fitToFly s k := by
  unfold beginRefusal at h
  split at h
  · cases h
  split at h
  · cases h
  split at h
  · cases h
  rename_i calm
  split at h
  · cases h
  rename_i running
  simp only [not_or, not_not] at calm running
  obtain ⟨-, level, vane⟩ := calm
  obtain ⟨-, run, live, -⟩ := running
  refine ⟨level, vane, live, ?_⟩
  cases control : (s.lane k).control with
  | run => rfl
  | halted => exact absurd control run

theorem Steady.cancelLift (b : Booking) (s : State) : Steady none s (cancelLift b s) := by
  have cancelled : Steady none s (updateBooking b.id (fun c => if b.state = .active ∨ b.state = .suspended
      then ended s { c with state := .cancelled } else { c with state := .cancelled }) s) :=
    (Steady.refl none s).update b.id _ fun c active => by split at active <;> cases active
  exact Steady.report (AirClosed.ite ((Steady.airClosed none s).giveUp b.crane cancelled) cancelled) b.id

namespace LiftsKept

variable {e : Option Crane} {s t : State}

theorem steady_within {w : Touch} (hs : LiftsKept e s) (table : TableKept t) (h : Steady e s t) (hw : Within w s t)
    (lanes : w.lanes = false := by rfl) (winds : w.winds = false := by rfl) : LiftsKept e t :=
  ⟨table, hs.2.steady_within h hw lanes winds⟩

theorem within {w : Touch} (hs : LiftsKept e s) (h : Within w s t) (lanes : w.lanes = false := by rfl)
    (winds : w.winds = false := by rfl) (vanes : w.vanes = false := by rfl) (bookings : w.bookings = false := by rfl) :
    LiftsKept e t :=
  ⟨hs.1.within h bookings, hs.2.within h lanes winds vanes bookings⟩

theorem suspend {k : Crane} (hs : LiftsKept (some k) s) (why : SuspendReason) : LiftsKept none (suspend k why s) :=
  ⟨hs.1.suspend k why, FitBut.suspend hs.1 hs.2 why⟩

theorem weaken (hs : LiftsKept none s) (e : Option Crane) : LiftsKept e s := ⟨hs.1, hs.2.weaken e⟩

theorem resume (hs : LiftsKept e s) (k : Crane) : LiftsKept e (judgeResume k s) := ⟨hs.1.resume k, hs.2.resume hs.1 k⟩

/-- A lift of a crane that is no longer fit is left out, when every other stays fit; none is left out without such a lift. -/
theorem none_of_grounded {k : Crane} (hs : LiftsKept (some k) s)
    (grounded : ∀ b ∈ s.bookings, b.state = .active → b.crane = k → fitToFly s k) : LiftsKept none s := by
  refine ⟨hs.1, fun b hb active _ => ?_⟩
  by_cases crane : b.crane = k
  · rw [crane]
    exact grounded b hb active crane
  · exact hs.2 b hb active fun h => crane (Option.some.inj h)

/-! ### Halts and lane timers (R29 to R37) -/

theorem haltState (hs : LiftsKept none s) (k : Crane) : LiftsKept none (haltState k s) := by
  unfold Machine.haltState
  split
  · exact hs
  · exact suspend ⟨hs.1.within (setControl_within k _ s), (hs.2.weaken (some k)).relaned (setControl_within k _ s)
      (setControl_lanes k .halted s) (.inl rfl)⟩ .halt

theorem runState (hs : LiftsKept none s) (k : Crane) : LiftsKept none (runState k s) := by
  unfold Machine.runState
  split
  · exact hs
  · exact resume ⟨hs.1.within (setControl_within k _ s), hs.2.relaned (setControl_within k _ s) (setControl_lanes k .run s)
      (.inr ⟨id, fun _ => rfl⟩)⟩ k

/-- The lane of the crane left out may change as it will. -/
theorem setLane_out {k : Crane} (hs : LiftsKept (some k) s) (l : Lane) : LiftsKept (some k) (s.setLane k l) :=
  ⟨hs.1.within (setLane_within s k l), hs.2.relaned (setLane_within s k l) rfl (.inl rfl)⟩

theorem setLaneState_out {k : Crane} (hs : LiftsKept (some k) s) (new : LaneState) : LiftsKept (some k) (setLaneState k new s) :=
  ⟨hs.1.within (setLaneState_within k new s), hs.2.relaned (setLaneState_within k new s) (setLaneState_lanes k new s) (.inl rfl)⟩

theorem becomeStale (hs : LiftsKept none s) (k : Crane) : LiftsKept none (becomeStale k s) := by
  have stopped : LiftsKept (some k)
      (startTlost k (Machine.setLaneState k .stale (s.setLane k { s.lane k with tstale := none }))) :=
    (((hs.weaken (some k)).setLane_out _).setLaneState_out .stale).setLane_out _
  have frozen {t : State} (ht : LiftsKept (some k) t) : LiftsKept (some k) (if t.mode = .operating then widen k (freeze k t) else t) := by
    split
    · exact (ht.within (freeze_within k t)).within (widen_within k _)
    · exact ht
  unfold Machine.becomeStale
  dsimp only
  exact suspend (((frozen stopped).within (leaveLive_within k _)).within (clearMarks_within k _)) .lane

theorem becomeLost (hs : LiftsKept none s) (k : Crane) : LiftsKept none (becomeLost k s) := by
  have lost := ((hs.weaken (some k)).setLane_out { s.lane k with tlost := none }).setLaneState_out .lost
  have lane : (Machine.setLaneState k .lost (s.setLane k { s.lane k with tlost := none })).lane k
      = { s.lane k with tlost := none, state := .lost } := by
    rw [lane_of_lanes (setLaneState_lanes k .lost _), State.setLane_lane_self]
  have halted : LiftsKept none (Machine.haltState k (Machine.setLaneState k .lost (s.setLane k { s.lane k with tlost := none }))) := by
    unfold Machine.haltState
    split
    · rename_i already
      refine lost.none_of_grounded fun b hb active crane => ?_
      rw [lane] at already
      rw [(setLaneState_within k .lost _).bookings rfl] at hb
      obtain ⟨_, _, _, run⟩ := hs.2 b hb active nofun
      rw [crane, show (s.lane k).control = .halted from already] at run
      cases run
    · exact suspend ⟨lost.1.within (setControl_within k _ _), lost.2.relaned (setControl_within k _ _)
        (setControl_lanes k .halted _) (.inl rfl)⟩ .halt
  exact halted.within (trigger_within _ _ _ _)

theorem becomeSilent (hs : LiftsKept none s) (k : Crane) : LiftsKept none (becomeSilent k s) :=
  ⟨hs.1.within (becomeSilent_within k s), hs.2.relaned (becomeSilent_within k s) (becomeSilent_lanes k s) (.inr ⟨id, id⟩)⟩

/-! ### Demands (R137 to R144) -/

theorem bookingStep (hs : LiftsKept none s) (k : Crane) (step id : Nat) : LiftsKept none (bookingStep k step id s).2 := by
  have table := TableKept.blockClosed.bookingStep k step id hs.1
  have closed (t : State) := Steady.airClosed none t
  have begun (b : Booking) (hb : b ∈ s.bookings) (crane : b.crane = k) : FitBut none (stepBegin k b s).2 := by
    unfold stepBegin
    split
    · exact hs.2
    · rename_i begin
      dsimp only
      subst crane
      have active := FitBut.flown (e := none) hs.1 hs.2 hb (begunRecord s b.crane) rfl (fit_of_begin begin)
      rw [beginLift_eq]
      exact active.steady_within (Steady.report ((closed _).legEntry b.crane ((closed _).judgeLoad _ _ (Steady.refl none _))) b.id)
        (Within.after (a := {}) (c := Touch.step) (reportBooking_within b.id _) ((legEntry_within b.crane _).after
          (judgeLoad_within b.id _ _).mono))
  have advanced (b : Booking) : FitBut none (stepLegDone k b s).2 := by
    have stepped : Steady none s (advanceLeg k b s) := by
      have gone := (closed s).letGo k (currentLeg (updateBooking b.id (fun b => { b with leg := b.leg + 1 }) s) k)
        ((Steady.refl none s).update b.id (fun b => { b with leg := b.leg + 1 }) fun _ active => ⟨active, rfl⟩)
      unfold advanceLeg
      dsimp only
      refine (closed s).legEntry k ?_
      split
      · exact gone
      · exact AirClosed.ite gone ((closed s).withdrawReservation k gone)
    unfold stepLegDone
    split
    · split
      · dsimp only
        exact hs.2.steady_within stepped (advanceLeg_within k b s)
      · exact hs.2
    all_goals exact hs.2
  have finished (b : Booking) : FitBut none (stepEnd k b s).2 := by
    have landed : Steady none s (endLift k b s) :=
      Steady.report ((closed s).giveUp k ((Steady.refl none s).update b.id _ fun _ active => by cases active)) b.id
    unfold stepEnd
    split
    · dsimp only
      exact hs.2.steady_within landed (endLift_within k b s)
    all_goals exact hs.2
  have abandoned (b : Booking) : FitBut none (stepAbandon b s).2 := by
    unfold stepAbandon
    split
    · exact hs.2
    · dsimp only
      exact hs.2.steady_within (Steady.cancelLift b s) (cancelLift_within b s)
  refine ⟨table, ?_⟩
  unfold Machine.bookingStep
  split
  · exact hs.2
  split
  · exact hs.2
  rename_i b hb
  split
  · exact hs.2
  rename_i crane
  split
  · exact begun b (mem_of_findBooking hb) (not_not.1 crane)
  split
  · exact advanced b
  split
  · exact finished b
  · exact abandoned b

theorem acceptDemand (hs : LiftsKept none s) (k : Crane) (f : List Byte) : LiftsKept none (acceptDemand k f s) := by
  have cabbed : LiftsKept none (cabStep k s) :=
    ⟨hs.1.within (cabStep_within k s), hs.2.relaned (cabStep_within k s) (cabStep_lanes k s) (.inr ⟨id, id⟩)⟩
  have stepped (d : DemandIn) : LiftsKept none (stepOnDemand k d (cabStep k s)) := by
    unfold stepOnDemand
    split
    · exact cabbed
    · have booked := cabbed.bookingStep k d.step d.booking
      exact ⟨booked.1.within (setLane_within _ k _), booked.2.relaned (setLane_within _ k _) rfl (.inr ⟨id, id⟩)⟩
  have sent {t : State} (ht : LiftsKept none t) (v : PerAxis Int) (c : PerAxis Bool) (r : ReasonFlags) :
      LiftsKept none (sendDemand k v c r false t) :=
    ⟨ht.1.within (sendDemand_within k v c r false t), ht.2.relaned (sendDemand_within k v c r false t)
      (sendDemand_lanes k v c r false t) (.inr ⟨id, id⟩)⟩
  exact (sent ((stepped _).within (govern_within k _ _)) _ _ _).within (reloadTimer_within k _ _)

/-! ### Poses (R27, R118, R130, R147) -/

theorem judgePose (hs : LiftsKept none s) (k : Crane) : LiftsKept none (judgePose k s) := by
  have judged : LiftsKept none (reachReleased k s) :=
    hs.steady_within (TableKept.airClosed.reachReleased k hs.1) ((Steady.airClosed none s).reachReleased k (Steady.refl none s))
      (reachReleased_within k s)
  exact judgePose_keeps k s judged (fun t a ht => ht.within (setArb_within t k a)) fun t j ht => ht.haltState j

/-- The changes of level of a pose: a crane brought to STOW has its lift suspended, and nothing resumes but what may fly. -/
theorem levelsTaken {k : Crane} (levels : List WindLevel) (hs : LiftsKept (some k) s)
    (told : LiftsKept none s ∨ WindLevel.stow ∈ levels) :
    LiftsKept none (levels.foldl (fun t l => if l = .stow then Machine.suspend k .wind t else judgeResume k t) s) := by
  induction levels generalizing s with
  | nil => exact told.resolve_right List.not_mem_nil
  | cons l levels ih =>
    rw [List.foldl_cons]
    split
    · have grounded := hs.suspend .wind
      exact ih (grounded.weaken _) (.inl grounded)
    · rename_i hl
      refine ih (hs.resume k) (told.imp (fun h => h.resume k) fun mem => ?_)
      exact (List.mem_cons.1 mem).resolve_left fun h => hl h.symm

theorem bookingOnPose {k : Crane} (levels : List WindLevel) (judge : Bool) (hs : LiftsKept (some k) s)
    (told : LiftsKept none s ∨ WindLevel.stow ∈ levels) : LiftsKept none (bookingOnPose k levels judge s) := by
  have taken := levelsTaken levels hs told
  have judged : LiftsKept none (if judge then judgeResume k (levels.foldl
      (fun t l => if l = .stow then Machine.suspend k .wind t else judgeResume k t) s)
      else levels.foldl (fun t l => if l = .stow then Machine.suspend k .wind t else judgeResume k t) s) :=
    AirClosed.ite (taken.resume k) taken
  exact judged.steady_within (TableKept.airClosed.noteLoad k judged.1)
    ((Steady.airClosed none _).noteLoad k (Steady.refl none _)) (noteLoad_within k _)

/-- A crane fit to fly before Vane Control acts is so after, or a level STOW is handed on (R120, R126, R130). -/
theorem vaneOnPose_told {k : Crane} (levels : List WindLevel) (startUp : Bool) (vane : (s.vane k).state = .none)
    (level : (s.wind k).level ≠ .stow) :
    (vaneOnPose k levels startUp s).2 = s ∨ WindLevel.stow ∈ (vaneOnPose k levels startUp s).1 := by
  have abandoned : levels.foldl (judgeAbandon k) s = s :=
    foldl_keeps (P := fun t => t = s) (fun t l ht => by
      subst ht
      unfold judgeAbandon
      rw [vane, if_neg (fun h => nomatch h.2)]) _ _ rfl
  unfold vaneOnPose
  dsimp only
  rw [abandoned]
  split
  · exact .inl rfl
  split
  · refine .inr ?_
    show WindLevel.stow ∈ handed (s.wind k).level .stow
    rw [handed, if_neg level]
    exact List.mem_singleton_self _
  · refine .inl ?_
    dsimp only
    unfold judgeEntry
    split
    · rfl
    · refine if_neg fun h => ?_
      have due := h.2.2.2.2
      unfold entryDue at due
      split at due
      · cases due
      · simp only [Bool.and_eq_true, beq_iff_eq] at due
        exact level due.1.1

theorem vaneOnPose_windOnly (k : Crane) (levels : List WindLevel) (startUp : Bool) (s : State) :
    WindOnly k s (vaneOnPose k levels startUp s).2 := by
  have abandoned : WindOnly k s (levels.foldl (judgeAbandon k) s) :=
    foldl_keeps (P := WindOnly k s) (fun t l ht => ht.trans (.of_winds ((judgeAbandon_within k t l).winds rfl))) _ _ (.refl k s)
  have forced (prof : Profile) (t : State) : WindOnly k t (startVaning k prof t).2 := by
    unfold startVaning
    dsimp only
    exact ((WindOnly.setWind k _ t).trans (.setLevel k .stow _)).trans (.of_winds ((enterPreparing_within k prof _).winds rfl))
  unfold vaneOnPose
  dsimp only
  split
  · exact abandoned
  split
  · exact abandoned.trans (forced _ _)
  · exact abandoned.trans (.of_winds ((judgeEntry_within k _).winds rfl))

/-- What wind and vane make of a pose: every other lift stays fit, and that of crane k is fit or a level STOW is handed on. -/
theorem levels_told (hs : LiftsKept none s) (k : Crane) (startUp : Bool) :
    let wind := windOnPose k s
    let vane := vaneOnPose k wind.1 startUp wind.2
    LiftsKept (some k) vane.2 ∧ (LiftsKept none vane.2 ∨ WindLevel.stow ∈ wind.1 ++ vane.1) := by
  intro wind vane
  have w := windOnPose_within k s
  have told : LevelTold k s wind.1 wind.2 := LevelTold.windOnPose k s
  have steady : Steady (some k) s vane.2 := ((Steady.refl _ s).within w).trans (Steady.vaneOnPose k _ _ _)
  have lanes (j : Crane) : vane.2.lane j = s.lane j :=
    (lane_congr ((vaneOnPose_within k _ _ _).lanes rfl) j).trans (lane_congr (w.lanes rfl) j)
  have winds := told.others.trans (vaneOnPose_windOnly k wind.1 startUp wind.2)
  have kept : LiftsKept (some k) vane.2 :=
    ⟨(hs.1.within w).within (vaneOnPose_within k _ _ _), (hs.2.weaken _).steady steady (fun j _ => lanes j)
      fun j hj => winds j fun h => hj (by rw [h])⟩
  refine ⟨kept, or_iff_not_imp_right.2 fun untold => kept.none_of_grounded fun b hb active crane => ?_⟩
  obtain ⟨c, hc, activeC, same⟩ := steady.1 b hb active
  obtain ⟨level, none, live, run⟩ := hs.2 c hc activeC nofun
  rw [same, crane] at level none live run
  have levelW : (wind.2.wind k).level ≠ .stow := fun stow =>
    (told.stow stow).elim level fun mem => untold (List.mem_append_left _ mem)
  have vaneW : (wind.2.vane k).state = .none := by rw [vane_congr (w.vanes rfl)]; exact none
  rcases vaneOnPose_told wind.1 startUp vaneW levelW with unchanged | mem
  · have unchanged : vane.2 = wind.2 := unchanged
    rw [unchanged]
    exact ⟨levelW, vaneW, by rw [lane_congr (w.lanes rfl)]; exact live, by rw [lane_congr (w.lanes rfl)]; exact run⟩
  · exact absurd (List.mem_append_right _ mem) untold

theorem poseBlocks (hs : LiftsKept none s) (k : Crane) (live : Bool) : LiftsKept none (poseBlocks k live s) := by
  have checked {t : State} (ht : LiftsKept none t) : LiftsKept none (chartJudge k (overrunCheck k t)) := by
    have overrun := ht.within (overrunCheck_within k t)
    exact overrun.steady_within (TableKept.airClosed.chartJudge k overrun.1)
      ((Steady.airClosed none _).chartJudge k (Steady.refl none _)) (chartJudge_within k _)
  have judged : LiftsKept none (if s.mode == .operating && (s.lane k).state == .live
      then chartJudge k (overrunCheck k (Machine.judgePose k s)) else s) :=
    AirClosed.ite (checked (hs.judgePose k)) hs
  have booked {t : State} (ht : LiftsKept none t) (startUp judge : Bool) := by
    obtain ⟨kept, told⟩ := ht.levels_told k startUp
    exact bookingOnPose _ judge kept told
  have committed {t : State} (ht : LiftsKept none t) : LiftsKept none (pendingCommitStep k t) :=
    ht.steady_within (TableKept.airClosed.pendingCommitStep k ht.1)
      ((Steady.airClosed none t).pendingCommitStep k (Steady.refl none t)) (pendingCommitStep_within k t)
  exact committed (booked judged _ _)

theorem acceptPose (hs : LiftsKept none s) (k : Crane) (f : List Byte) : LiftsKept none (acceptPose k f s) := by
  have w : Within { lanes := true, poses := true, air := true, counters := true } s (advancedPose k f s).2 :=
    ((seqStep_within k _ s).then (c := { lanes := true, poses := true, air := true, counters := true })
      (recordPose_within k _ _).mono).then (advanceLane_within k _ _ _).mono
  have advanced : LiftsKept none (advancedPose k f s).2 := by
    refine ⟨hs.1.within w, hs.2.relaned w (advancedPose_lanes k f s) (.inr ⟨fun live => ?_, fun run => ?_⟩)⟩
    · exact Lane.advance_state_of_live (l := { s.lane k with lastSeq := some (poseIn f).seq }) live _ _ _
    · exact (Lane.advance_control _ _ _ _).trans run
  have forwarded := (advanced.poseBlocks k (advancedPose k f s).1).within (forwardPose_within k (poseIn f).flags _)
  rw [acceptPose_eq]
  refine ⟨forwarded.1.within (substituteStop_within k _), forwarded.2.relaned (substituteStop_within k _)
    (substituteStop_lanes k _) (.inr ⟨fun live => ?_, fun run => ?_⟩)⟩
  · exact (Lane.substituted_state _).trans live
  · exact (Lane.substituted_control _).trans run

end LiftsKept

end Sys2Proof.Machine

/-! PROOFS. Every step keeps every ACTIVE lift with a crane that may fly it (R145): modes, restarts, requests and expiries. -/

namespace Sys2Proof.Machine

set_option Elab.async false

namespace LiftsKept

variable {e : Option Crane} {s t : State}

/-- No level is brought to STOW, and lanes and vane states stay. -/
theorem relevelled {w : Touch} (hs : LiftsKept e s) (h : Within w s t)
    (levels : ∀ j, (s.wind j).level ≠ .stow → (t.wind j).level ≠ .stow) (lanes : w.lanes = false := by rfl)
    (vanes : w.vanes = false := by rfl) (bookings : w.bookings = false := by rfl) : LiftsKept e t := by
  refine ⟨hs.1.within h bookings, fun b hb active hk => ?_⟩
  rw [h.bookings bookings] at hb
  obtain ⟨level, vane, live, run⟩ := hs.2 b hb active hk
  refine ⟨levels _ level, ?_, ?_, ?_⟩
  · rw [vane_congr (h.vanes vanes)]; exact vane
  · rw [lane_congr (h.lanes lanes)]; exact live
  · rw [lane_congr (h.lanes lanes)]; exact run

theorem initialise (hs : LiftsKept e s) (k : Crane) (running : Bool) : LiftsKept e (initialise k running s).2 := by
  refine hs.relevelled (initialise_within k running s) fun j level => ?_
  unfold Machine.initialise
  dsimp only
  rw [State.setWind_wind]
  split
  · exact nofun
  · rename_i hj
    rw [wind_congr (setLevel_winds k .calm s), State.setWind_wind_ne _ _ _ _ hj]
    exact level

/-! ### Modes (R164 to R166) -/

theorem restart (hs : LiftsKept none s) (k : Crane) : LiftsKept none (restart k s) := by
  have lane : LiftsKept (some k) (restartLane k s) :=
    ⟨hs.1.within (restartLane_within k s),
      (hs.2.weaken (some k)).relaned (restartLane_within k s) (restartLane_lanes k s) (.inl rfl)⟩
  have arbiter : LiftsKept (some k) ((restartArbiter k (restartLane k s)).setGov k .reset) :=
    (lane.within (restartArbiter_within k _)).within (setGov_within _ k .reset)
  have vane : LiftsKept (some k) (setVaneRec k .reset ((restartArbiter k (restartLane k s)).setGov k .reset)) :=
    arbiter.steady_within (arbiter.1.within (setVaneRec_within k .reset _)) ((Steady.refl _ _).setVaneRec .reset)
      (setVaneRec_within k .reset _)
  exact ((vane.initialise k _).suspend .lane).within (clearCounters_within k _)

/-- The start-up decision at COMMENCE suspends the lift of a crane it brings to STOW (R118, R129). -/
theorem startUpAtCommence (hs : LiftsKept none s) (k : Crane) : LiftsKept none (startUpAtCommence s k) := by
  have vaned (prof : Profile) : LiftsKept (some k) (startVaning k prof s).2 := by
    have w := startVaning_within k prof s
    have others : WindOnly k s (startVaning k prof s).2 := by
      unfold startVaning
      dsimp only
      exact ((WindOnly.setWind k _ s).trans (.setLevel k .stow _)).trans (.of_winds ((enterPreparing_within k prof _).winds rfl))
    refine ⟨hs.1.within w, (hs.2.weaken _).steady (Steady.startVaning k prof s) (fun j _ => lane_congr (w.lanes rfl) j)
      fun j hj => others j fun h => hj (by rw [h])⟩
  unfold Machine.startUpAtCommence
  split
  · exact hs
  rename_i prof _
  split
  case isFalse => exact hs
  dsimp only
  split
  · rename_i same
    have stow : (s.wind k).level = .stow := by
      by_contra level
      have same : handed (s.wind k).level .stow = [] := same
      rw [handed, if_neg level] at same
      cases same
    refine (vaned prof).none_of_grounded fun b hb active crane => ?_
    obtain ⟨c, hc, activeC, same⟩ := (Steady.startVaning k prof s).1 b hb active
    obtain ⟨level, _⟩ := hs.2 c hc activeC nofun
    rw [same, crane] at level
    exact absurd stow level
  · exact (vaned prof).suspend .wind

theorem startOperating (hs : LiftsKept none s) : LiftsKept none (startOperating s) := by
  have operating : LiftsKept none { s with mode := .operating } :=
    ⟨hs.1, hs.2.touches (t := { s with mode := .operating }) (w := {}) (Within.refl _ _).touches rfl rfl rfl rfl⟩
  refine foldl_keeps (P := LiftsKept none) (fun t k ht => ht.resume k) _ _
    (foldl_keeps (P := LiftsKept none) (fun _ k ht => ht.startUpAtCommence k) _ _
      (foldl_keeps (P := LiftsKept none) (fun t k ht => ?_) _ _
        (foldl_keeps (P := LiftsKept none) (fun t k ht => ht.within (setArb_within t k _)) _ _
          (foldl_keeps (P := LiftsKept none) (fun t k ht => ?_) _ _ operating))))
  · unfold runPresent
    refine AirClosed.ite ?_ ht
    exact ⟨ht.1.within (setControl_within k _ t),
      ht.2.relaned (setControl_within k _ t) (setControl_lanes k .run t) (.inr ⟨id, fun _ => rfl⟩)⟩
  · exact AirClosed.ite (ht.initialise k true) ht

/-- SITE RESET leaves no lift ACTIVE (R145, R165). -/
theorem siteReset (hs : LiftsKept none s) (tgt : Target) : LiftsKept none (siteReset tgt s).2 := by
  refine ⟨TableKept.blockClosed.siteReset tgt hs.1, ?_⟩
  unfold Machine.siteReset
  split
  · exact hs.2
  · dsimp only
    have reset : TableKept (resetBlocks (resetSite s)) := TableKept.blockClosed.reset s hs.1
    refine fun b hb active => absurd active (grounded_of_suspends reset .reset b ?_)
    rwa [(resetRecorder_within _).bookings rfl] at hb

/-! ### Expiries (R71, R75, R135, R168) -/

theorem expireOverride (hs : LiftsKept none s) (z : Zone) : LiftsKept none (expireOverride z s) :=
  hs.steady_within (TableKept.airClosed.expireOverride z hs.1) ((Steady.airClosed none s).expireOverride z (.refl none s))
    (expireOverride_within z s)

theorem expireGrant (hs : LiftsKept none s) (g : Grant) : LiftsKept none (expireGrant g s) :=
  hs.steady_within (TableKept.airClosed.expireGrant g hs.1) ((Steady.airClosed none s).expireGrant g (.refl none s))
    (expireGrant_within g s)

theorem openWindow (hs : LiftsKept none s) {b : Booking} (hb : b ∈ s.bookings) (logged : b.state = .logged) :
    LiftsKept none (openWindow b.id s) :=
  hs.steady_within (hs.1.opened hb logged) (((Steady.refl none s).update b.id _ fun _ active => by cases active).report b.id)
    (openWindow_within b.id s)

theorem closeWindow (hs : LiftsKept none s) {b : Booking} (hb : b ∈ s.bookings) : LiftsKept none (closeWindow b s) := by
  have steady : Steady none s (Machine.closeWindow b s) := by
    unfold Machine.closeWindow
    split
    · exact ((Steady.refl none s).update b.id _ fun _ active => by cases active).report b.id
    · exact ((Steady.refl none s).update b.id _ fun _ active => by cases active).report b.id
    · refine AirClosed.ite (Steady.refl none s) (Steady.within ?_ (reportOvertime_within b.id _))
      exact (Steady.refl none s).update b.id _ fun _ active => ⟨active, rfl⟩
    all_goals exact Steady.refl none s
  exact hs.steady_within (hs.1.closed hb) steady (closeWindow_within b s)

theorem takeSiteDue (hs : LiftsKept none s) {i : Nat} {d : SiteDue} (hd : (i, d) ∈ siteDues s) :
    LiftsKept none (takeSiteDue s d) := by
  unfold Machine.takeSiteDue
  split
  · exact hs.expireOverride _
  · split
    · exact hs
    · exact hs.expireGrant _
  · obtain ⟨b, hb, rfl, logged⟩ := logged_of_windowOpen hd
    exact hs.openWindow hb logged
  · split
    · exact hs
    · rename_i hb
      exact hs.closeWindow (mem_of_findBooking hb)

theorem outer (hs : LiftsKept e s) (now : Nat) (clock : Clock) (line : Line) (pending : List Instr) (free : Nat) :
    LiftsKept e { s with now := now, clock := clock, line := line, pending := pending, freeCount := free } := hs

theorem takeDues (hs : LiftsKept none s) (t fuel : Nat) : LiftsKept none (takeDues t fuel s) := by
  induction fuel generalizing s with
  | zero => exact hs
  | succ fuel ih =>
    rw [Machine.takeDues]
    split
    · exact hs
    · rename_i d hd
      obtain ⟨i, -, due⟩ := mem_siteDues_of_earliest (mem_of_chooseDue hd)
      exact ih (takeSiteDue (hs.outer s.now s.clock s.line s.pending (s.freeCount + 1)) due)

theorem setSiteTime (hs : LiftsKept none s) (tgt : Target) (t : Nat) : LiftsKept none (setSiteTime tgt t s).2 := by
  unfold Machine.setSiteTime
  split
  · exact hs
  · dsimp only
    have taken : LiftsKept none (if s.clock.siteTime < t then Machine.takeDues t (duesBound s) s else s) :=
      AirClosed.ite (hs.takeDues t _) hs
    exact taken.outer _ _ _ _ _

/-! ### Requests -/

/-- A booking admitted is not ACTIVE; one retired is gone. -/
theorem rebooked (hs : LiftsKept none s) {l : List Booking} (table : TableSound l)
    (old : ∀ b ∈ l, b.state = .active → b ∈ s.bookings) : LiftsKept none (s.setBookings l) :=
  ⟨table, fun b hb active hk => hs.2 b (old b hb active) active hk⟩

theorem judged {i : Instr} {j : Judged} (hs : LiftsKept none s) (hj : judgeRequest i s = some j) : LiftsKept none j.after := by
  have table : TableKept j.after := TableKept.blockClosed.judged hj hs.1
  have closed := Steady.airClosed none s
  have reexamined {t : State} (ht : Steady none s t) : Steady none s (reexamine s t) := closed.reexamine s ht
  cases i with
  | commit tag tgt set =>
    cases hj
    exact hs.steady_within table (closed.commit tag tgt set (.refl none s)) (commit_within tag tgt set s)
  | commence tag tgt =>
    cases hj
    show LiftsKept none (commence tgt s).2
    unfold commence
    split
    · exact hs
    split
    · exact hs
    split
    · exact hs
    · dsimp only
      exact hs.startOperating
  | siteReset tag tgt => cases hj; exact hs.siteReset tgt
  | craneRestart tag tgt =>
    cases hj
    show LiftsKept none (craneRestart tgt s).2
    unfold craneRestart
    split
    · exact hs
    · exact hs.restart _
  | setSiteTime tag tgt t => cases hj; exact hs.setSiteTime tgt t
  | haltCrane tag tgt =>
    cases hj
    show LiftsKept none (haltCrane tgt s).2
    unfold haltCrane
    split
    · exact hs
    · exact hs.haltState _
  | releaseCrane tag tgt =>
    cases hj
    show LiftsKept none (releaseCrane tgt s).2
    unfold releaseCrane
    split
    · exact hs
    split
    · exact hs
    split
    · exact hs
    split
    · exact hs
    split
    · exact hs
    · dsimp only
      exact hs.runState _
  | resumeCrane tag tgt =>
    cases hj
    show LiftsKept none (resumeCrane tgt s).2
    unfold resumeCrane
    split
    · exact hs
    split
    · exact hs
    split
    · exact hs
    split
    · exact hs
    · dsimp only
      rename_i k _ _ _ _
      have returned : LiftsKept none (returnSwept k s) :=
        hs.steady_within (hs.1.within (returnSwept_within k s)) (Steady.returnSwept_none k s) (returnSwept_within k s)
      exact returned.resume k
  | forceReleaseZone tag tgt =>
    cases hj
    show LiftsKept none (forceReleaseZone tgt s).2
    unfold forceReleaseZone
    split
    · exact hs
    split
    · exact hs
    split
    · exact hs
    split
    · exact hs
    · dsimp only
      exact hs.steady_within (TableKept.airClosed.release _ s hs.1) (closed.release _ s (.refl none s)) (release_within _ s)
  | setZonePermissions tag tgt mode p exp =>
    cases hj
    refine hs.steady_within table ?_ (setZonePermissions_within tgt mode p exp s)
    show Steady none s (setZonePermissions tgt mode p exp s).2
    unfold setZonePermissions
    split
    · exact .refl none s
    split
    · exact .refl none s
    split
    · exact .refl none s
    split
    · split
      · exact .refl none s
      · dsimp only
        exact reexamined ((Steady.refl none s).within (setPerm_within s _ _))
    · dsimp only
      exact reexamined ((Steady.refl none s).within (revertPerm_within _ s))
  | grantAccess tag tgt z u exp =>
    cases hj
    refine hs.steady_within table ?_ (grantAccess_within tgt z u exp s)
    show Steady none s (grantAccess tgt z u exp s).2
    unfold grantAccess
    dsimp only
    split
    · exact .refl none s
    split
    · exact .refl none s
    split
    · exact .refl none s
    split
    · exact .refl none s
    split
    · exact .refl none s
    split
    · dsimp only
      exact reexamined ((Steady.refl none s).within (setGrants_within s _))
    split
    · exact .refl none s
    · dsimp only
      exact reexamined ((Steady.refl none s).within (setGrants_within s _))
  | revokeAccess tag tgt z =>
    cases hj
    refine hs.steady_within table ?_ (revokeAccess_within tgt z s)
    show Steady none s (revokeAccess tgt z s).2
    unfold revokeAccess
    split
    · split
      · dsimp only
        exact reexamined ((Steady.refl none s).within (setGrants_within s _))
      · exact .refl none s
    · exact .refl none s
  | bookLift tag tgt p =>
    cases hj
    show LiftsKept none (bookLift tgt p s).2
    unfold bookLift
    split
    · exact hs
    split
    · exact hs
    · rename_i id _ _ b hb
      dsimp only
      refine within (hs.rebooked (hs.1.book hb) fun a ha active => ?_) (reportBooking_within id _)
      obtain ⟨-, -, rfl, -, grounded⟩ := admitted_of_admission hb
      refine (List.mem_append.1 ha).resolve_right fun new => ?_
      rw [List.mem_singleton.1 new] at active
      rcases grounded with st | st
      · exact nomatch active.symm.trans st
      · exact nomatch active.symm.trans st
  | cancelBooking tag tgt =>
    cases hj
    refine hs.steady_within table ?_ (cancelBooking_within tgt s)
    show Steady none s (cancelBooking tgt s).2
    unfold cancelBooking
    split
    · exact .refl none s
    split
    · exact .refl none s
    · exact Steady.cancelLift _ s
  | retireBooking tag tgt =>
    cases hj
    show LiftsKept none (retireBooking tgt s).2
    unfold retireBooking
    split
    · exact hs
    split
    · dsimp only
      exact hs.rebooked (TableSound.filter hs.1 _) fun b hb _ => List.mem_of_mem_filter hb
    · exact hs
  | _ => exact ⟨table, hs.2.touches (judged_touches hj) rfl rfl rfl rfl⟩

end LiftsKept

/-- Every operation of a step keeps a sound Booking Table and every ACTIVE lift fit. -/
theorem liftsKept_closed : StepClosed (LiftsKept none) where
  outer _ _ _ _ _ _ hs := hs
  powerOn pending sent free _ _ _ := ⟨TableKept.blockClosed.powerOn pending sent free, fun _ hb => absurd hb List.not_mem_nil⟩
  pose k f _ hs := hs.acceptPose k f
  demand k f _ hs := hs.acceptDemand k f
  rejected k s hs := hs.within (count_within k .frameErrors 1 s)
  assembly _ _ hs := hs.within (setMgmt_within _ _)
  judged _ _ _ hj hs := hs.judged hj
  answer q tag rs hs := hs.within (answer_within q tag rs)
  answerRead q tag rs hs := hs.within (answerRead_within q tag rs)
  unknown _ _ s hs := hs.within (send_within _ _ s)
  stale k _ hs _ := hs.becomeStale k
  lost k _ hs _ := hs.becomeLost k
  silent k _ hs _ := hs.becomeSilent k
  limit z s hs := hs.within (markVacate_within z .holdLimit s)
  blocked k s hs preparing := by
    have steady : Steady none s (blockPreparation k s) := by
      refine ⟨by rw [(blockPreparation_within k s).bookings rfl]; exact (Steady.refl none s).1, fun j _ vane => ?_⟩
      have vanes : (blockPreparation k s).vanes = (s.setVane k { s.vane k with blocked := true }).vanes := by
        unfold blockPreparation
        rw [(trigger_within _ _ _ _).vanes rfl, (offer_within _ _).vanes rfl]
      rw [vane_congr vanes, State.setVane_vane]
      split
      · rename_i hj
        rw [hj] at vane
        exact vane
      · exact vane
    exact hs.steady_within (hs.1.within (blockPreparation_within k s)) steady (blockPreparation_within k s)
  paced t s hs := by
    have timed : Within Touch.transfer s (s.setRecorder { s.recorder with paceTimer := t }) := recorder_within _ _ rfl rfl id
    exact (hs.within timed).within (sendHead_within _)
  transfer t s hs := by
    have timed : Within Touch.transfer s (s.setRecorder { s.recorder with transferTimer := t }) :=
      recorder_within _ _ rfl rfl id
    exact (hs.within timed).within (transferAll_within _)
  override z _ hs := hs.expireOverride z
  grant g _ hs := hs.expireGrant g
  opened id b s hs hb logged := by
    obtain rfl := id_of_findBooking hb
    exact hs.openWindow (mem_of_findBooking hb) logged
  closed id b s hs hb := hs.closeWindow (mem_of_findBooking hb)

/-- Settles O10: an ACTIVE lift is suspended before its crane's lane leaves LIVE for good, its level is left at STOW or its vane
state leaves NONE, and none begins or resumes but with a crane that may fly it. -/
theorem stepKeepsLiftsSound : Obligations.StepKeepsLiftsSound := by
  intro s t hs ht
  obtain ⟨table, fit⟩ := hs
  have kept : LiftsKept none t := step_keeps liftsKept_closed s t ht ⟨table, activeSound_iff.1 fit⟩
  exact ⟨kept.1, activeSound_iff.2 kept.2⟩

end Sys2Proof.Machine

/-! PROOFS. What a step does with the queue, how a request is answered, and that a refusal changes nothing (R161, R162); a frame
as an equation, for the statements that write one out. -/

namespace Sys2Proof.Machine

set_option Elab.async false

/-- A frame written out: every part of the state that `w` does not name is that of `s`. -/
theorem Within.frame {w : Touch} {s t : State} (h : Within w s t) :
    t = { s with
      lanes := bif w.lanes then t.lanes else s.lanes, poses := bif w.poses then t.poses else s.poses
      site := bif w.site then t.site else s.site, air := bif w.air then t.air else s.air
      access := bif w.access then t.access else s.access, gov := bif w.gov then t.gov else s.gov
      winds := bif w.winds then t.winds else s.winds, vanes := bif w.vanes then t.vanes else s.vanes
      bookings := bif w.bookings then t.bookings else s.bookings, mgmt := bif w.mgmt then t.mgmt else s.mgmt
      sent := bif w.sent then t.sent else s.sent, recorder := t.recorder } := by
  have pick {α : Type} {a b : α} (c : Bool) (eq : c = false → a = b) : a = bif c then a else b := by
    cases c
    · exact eq rfl
    · rfl
  cases t
  rw [State.mk.injEq]
  exact ⟨h.mode, h.now, h.clock, pick _ h.lanes, pick _ h.poses, pick _ h.site, pick _ h.air, pick _ h.access, pick _ h.gov,
    pick _ h.winds, pick _ h.vanes, pick _ h.bookings, rfl, pick _ h.mgmt, h.line, h.pending, pick _ h.sent, h.freeCount⟩

/-! ### The queue (logs 1, 2 and 4) -/

/-- Settles O1: it is the first case of `step`. -/
theorem stepTakesFrontCommand : Obligations.StepTakesFrontCommand := by
  unfold Obligations.StepTakesFrontCommand
  exact fun _ _ => rfl

theorem chooseDue_eq_none {α : Type} {s : State} {ds : List α} : chooseDue s ds = none ↔ ds = [] := by
  refine ⟨fun h => ?_, fun h => by rw [h]; rfl⟩
  unfold chooseDue at h
  split at h
  · rfl
  · cases h
  · rename_i d e rest
    have bound : Config.dueChoice s.freeCount % (rest.length + 2) < (d :: e :: rest).length := Nat.mod_lt _ (Nat.succ_pos _)
    rw [List.getElem?_eq_getElem bound] at h
    cases h

/-- Settles O2, by the event chosen among those that are due. -/
theorem idleStepTakesDueEventOrTicks : Obligations.IdleStepTakesDueEventOrTicks := by
  intro s idle
  cases due : nextDue s with
  | some c => exact .inl ⟨c, mem_of_chooseDue due, by simp only [step, idle, due]⟩
  | none => exact .inr ⟨chooseDue_eq_none.1 due, by simp only [step, idle, due]⟩

/-! ### A refusal changes nothing (R162) -/

/-- A judgement whose reply is a refusal leaves the state as it was. -/
def RefusesCleanly (s : State) (rs : Reply × State) : Prop := ∀ why check k z, rs.1 = .refused why check k z → rs.2 = s

namespace RefusesCleanly

variable {s t : State} {rs rs' : Reply × State}

theorem kept (r : Reply) : RefusesCleanly s (r, s) := fun _ _ _ _ _ => rfl
theorem ok : RefusesCleanly s (.ok, t) := fun _ _ _ _ h => by cases h
theorem done {d : List Byte} : RefusesCleanly s (.done d, t) := fun _ _ _ _ h => by cases h
theorem pending : RefusesCleanly s (.pending, t) := fun _ _ _ _ h => by cases h

theorem ite {c : Prop} [Decidable c] (h : RefusesCleanly s rs) (h' : RefusesCleanly s rs') :
    RefusesCleanly s (if c then rs else rs') := by
  split
  · exact h
  · exact h'

/-- A test that refuses, before the rest. -/
theorem tested {c : Prop} [Decidable c] {r : Reply} (h : RefusesCleanly s rs) :
    RefusesCleanly s (if c then (r, s) else rs) := ite (kept r) h

theorem dite {c : Prop} [Decidable c] {a : c → Reply × State} (h : ∀ hc, RefusesCleanly s (a hc)) {r : Reply} :
    RefusesCleanly s (if hc : c then a hc else (r, s)) := by
  split
  · exact h _
  · exact kept _

/-! #### Site tables -/

theorem loadForCrane (k : Crane) (seg : Nat) (content : Segment) (s : State) :
    RefusesCleanly s (loadForCrane k seg content s) := by
  unfold Machine.loadForCrane
  split
  · refine tested ?_
    split
    · exact kept _
    · exact ok
  · refine dite fun _ => ?_
    split
    · exact kept _
    · exact tested ok
  · refine tested ?_
    split
    · exact kept _
    · exact ok
  · exact tested ok
  · exact kept _
  · exact kept _

theorem loadForSite (seg : Nat) (content : Segment) (s : State) : RefusesCleanly s (loadForSite seg content s) := by
  unfold Machine.loadForSite
  split
  · exact dite fun _ => ite ok (kept _)
  all_goals exact kept _

theorem loadSegment (tgt : Target) (seg : Nat) (content : Segment) (s : State) :
    RefusesCleanly s (loadSegment tgt seg content s) := by
  refine ite (loadForSite seg content s) ?_
  split
  · exact kept _
  · exact loadForCrane _ seg content s

theorem takeStructural (k : Crane) (tag : Byte) (c : StructuralCommit) (s : State) :
    RefusesCleanly s (takeStructural k tag c s) := by
  unfold Machine.takeStructural
  dsimp only
  refine ite ok (ite ?_ pending)
  split
  · exact ok
  · exact pending

theorem commitStructural (k : Crane) (tag : Byte) (p m c : Bool) (s : State) :
    RefusesCleanly s (commitStructural k tag p m c s) := by
  refine tested (tested (tested ?_))
  split
  · exact kept _
  · exact takeStructural k tag _ s

theorem commitPolicy (k : Crane) (tag : Byte) (s : State) : RefusesCleanly s (commitPolicy k tag s) := by
  unfold Machine.commitPolicy
  split
  · exact kept _
  · exact tested (tested (ite ok pending))

theorem commitZoneTable (s : State) : RefusesCleanly s (commitZoneTable s) := by
  unfold Machine.commitZoneTable
  split
  · exact kept _
  split
  · exact kept _
  split
  · exact kept _
  · exact ok

theorem commit (tag : Byte) (tgt : Target) (set : Byte) (s : State) : RefusesCleanly s (commit tag tgt set s) := by
  unfold Machine.commit commitForSite commitForCrane
  split
  · split
    · exact kept _
    · exact commitZoneTable s
    · exact kept _
    · exact kept _
  split
  · exact kept _
  split
  · exact kept _
  · exact kept _
  · exact commitPolicy _ tag s
  · exact commitStructural _ tag _ _ _ s

/-! #### Modes, cranes and zones -/

theorem commence (tgt : Target) (s : State) : RefusesCleanly s (commence tgt s) := by
  refine tested (tested ?_)
  split
  · exact kept _
  · exact ok

theorem siteReset (tgt : Target) (s : State) : RefusesCleanly s (siteReset tgt s) := tested ok

theorem craneRestart (tgt : Target) (s : State) : RefusesCleanly s (craneRestart tgt s) := by
  unfold Machine.craneRestart
  split
  · exact kept _
  · exact ok

theorem setSiteTime (tgt : Target) (t : Nat) (s : State) : RefusesCleanly s (setSiteTime tgt t s) := tested ok

theorem haltCrane (tgt : Target) (s : State) : RefusesCleanly s (haltCrane tgt s) := by
  unfold Machine.haltCrane
  split
  · exact kept _
  · exact ok

theorem releaseCrane (tgt : Target) (s : State) : RefusesCleanly s (releaseCrane tgt s) := by
  unfold Machine.releaseCrane
  split
  · exact kept _
  refine tested (tested (tested ?_))
  split
  · exact kept _
  · exact ok

theorem resumeCrane (tgt : Target) (s : State) : RefusesCleanly s (resumeCrane tgt s) := by
  unfold Machine.resumeCrane
  split
  · exact kept _
  · exact tested (tested (tested ok))

theorem forceReleaseZone (tgt : Target) (s : State) : RefusesCleanly s (forceReleaseZone tgt s) := by
  unfold Machine.forceReleaseZone
  split
  · exact kept _
  · exact tested (tested (tested ok))

theorem setZonePermissions (tgt : Target) (mode : Nat) (p : PermSet) (e : Option Nat) (s : State) :
    RefusesCleanly s (setZonePermissions tgt mode p e s) := by
  unfold Machine.setZonePermissions
  split
  · exact kept _
  · exact tested (tested (ite (tested ok) ok))

theorem grantAccess (tgt : Target) (z : Nat) (u : PermSet) (e : Option Nat) (s : State) :
    RefusesCleanly s (grantAccess tgt z u e s) := by
  unfold Machine.grantAccess
  split
  · exact kept _
  refine tested ?_
  split
  · exact kept _
  · exact tested (tested (ite ok (tested ok)))

theorem revokeAccess (tgt : Target) (z : Nat) (s : State) : RefusesCleanly s (revokeAccess tgt z s) := by
  unfold Machine.revokeAccess
  split
  · exact ite ok (kept _)
  · exact kept _

/-! #### Bookings, reads and the recorder -/

theorem bookLift (tgt : Target) (p : LiftPlan) (s : State) : RefusesCleanly s (bookLift tgt p s) := by
  unfold Machine.bookLift
  split
  · exact kept _
  split
  · exact kept _
  · exact ok

theorem cancelBooking (tgt : Target) (s : State) : RefusesCleanly s (cancelBooking tgt s) := by
  unfold Machine.cancelBooking
  split
  · exact kept _
  · exact tested ok

theorem retireBooking (tgt : Target) (s : State) : RefusesCleanly s (retireBooking tgt s) := by
  unfold Machine.retireBooking
  split
  · exact kept _
  · exact ite ok (kept _)

theorem readCapture (tgt : Target) (part : Nat) (s : State) : RefusesCleanly s (readCapture tgt part s) := tested (tested done)

theorem snapshotCounters (tgt : Target) (s : State) : RefusesCleanly s (snapshotCounters tgt s) := by
  refine ite ok ?_
  split
  · exact kept _
  · exact ok

theorem setReporting (tgt : Target) (c : Settings) (s : State) : RefusesCleanly s (setReporting tgt c s) :=
  tested (ite ok (kept _))

theorem triggerCapture (tgt : Target) (s : State) : RefusesCleanly s (triggerCapture tgt s) := tested (tested done)

/-- A request that is refused changes nothing. -/
theorem judged {c : Instr} {j : Judged} (hj : judgeRequest c s = some j) : RefusesCleanly s (j.reply, j.after) := by
  cases c with
  | loadSegment tag tgt seg content => cases hj; exact loadSegment tgt seg content s
  | commit tag tgt set => cases hj; exact commit tag tgt set s
  | commence tag tgt => cases hj; exact commence tgt s
  | siteReset tag tgt => cases hj; exact siteReset tgt s
  | craneRestart tag tgt => cases hj; exact craneRestart tgt s
  | setSiteTime tag tgt t => cases hj; exact setSiteTime tgt t s
  | haltCrane tag tgt => cases hj; exact haltCrane tgt s
  | releaseCrane tag tgt => cases hj; exact releaseCrane tgt s
  | resumeCrane tag tgt => cases hj; exact resumeCrane tgt s
  | forceReleaseZone tag tgt => cases hj; exact forceReleaseZone tgt s
  | setZonePermissions tag tgt mode p e => cases hj; exact setZonePermissions tgt mode p e s
  | grantAccess tag tgt z u e => cases hj; exact grantAccess tgt z u e s
  | revokeAccess tag tgt z => cases hj; exact revokeAccess tgt z s
  | bookLift tag tgt p => cases hj; exact bookLift tgt p s
  | cancelBooking tag tgt => cases hj; exact cancelBooking tgt s
  | retireBooking tag tgt => cases hj; exact retireBooking tgt s
  | readCapture tag tgt part => cases hj; exact readCapture tgt part s
  | snapshotCounters tag tgt => cases hj; exact snapshotCounters tgt s
  | setReporting tag tgt c => cases hj; exact setReporting tgt c s
  | triggerCapture tag tgt => cases hj; exact triggerCapture tgt s
  | readCrane tag tgt part => cases hj; exact kept _
  | readZone tag tgt => cases hj; exact kept _
  | readBooking tag tgt part => cases hj; exact kept _
  | readCounters tag tgt part => cases hj; exact kept _
  | _ => cases hj

end RefusesCleanly

/-! ### The answer (R161, R174) -/

theorem requestHead_of_judged {c : Instr} {s : State} {j : Judged} (hj : judgeRequest c s = some j) :
    requestHead c = some (j.req, j.tag) := by
  cases c <;> cases hj <;> rfl

theorem foldl_send_eq (p : Port) (g : Nat → List Byte) (l : List Nat) (s : State) :
    l.foldl (fun s i => send p (g i) s) s = { s with sent := s.sent ++ l.map fun i => ⟨p, sealFrame (g i)⟩ } := by
  induction l generalizing s with
  | nil => rw [List.foldl_nil, List.map_nil, List.append_nil]
  | cons i l ih =>
    rw [List.foldl_cons, ih, List.map_cons]
    simp only [send, List.append_assoc, List.singleton_append]

theorem answerRead_eq (q : Req) (tag : Byte) (r : Reply) (s : State) :
    answerRead q tag (r, s) = { s with sent := s.sent ++ responseTrain q tag r } :=
  foldl_send_eq .s (readBytes (byte (reqCode q)) tag r) _ s

/-- A judged request is answered with the frames of its kind, tag and reply, after its effect. -/
theorem respond_eq (j : Judged) : respond j = { j.after with sent := j.after.sent ++
    (if isRead j.req = true then responseTrain j.req j.tag j.reply else [responseFrame j.req j.tag j.reply]) } := by
  unfold respond
  split
  · exact answerRead_eq _ _ _ _
  · rfl

theorem exec_judged {c : Instr} {s : State} {j : Judged} (hj : judgeRequest c s = some j) :
    exec c s = .next { j.after with sent := s.sent ++
      (if isRead j.req = true then responseTrain j.req j.tag j.reply else [responseFrame j.req j.tag j.reply]) } := by
  rw [exec_request c s j hj, respond_eq, judged_sent hj]

/-- Settles O3: what each request's effect touches, and that each refusal hands the state on. -/
theorem requestActedOnAndAnsweredOnce : Obligations.RequestActedOnAndAnsweredOnce := fun _ _ _ hj =>
  ⟨requestHead_of_judged hj, judged_sent hj, RefusesCleanly.judged hj, exec_judged hj⟩

end Sys2Proof.Machine

/-! PROOFS. Power-on, and the state after reset (R22, R151, R167). -/

namespace Sys2Proof.Machine

set_option Elab.async false

theorem reset_zone (z : Zone) : State.reset.zone z = .reset := by simp [State.zone, State.reset, Air.reset]

theorem mem_settableKinds {e : ReportKind} (h : e ≠ .queueOverflow) : e ∈ settableKinds := by
  cases e
  case queueOverflow => exact absurd rfl h
  all_goals decide

theorem mem_triggerKinds (e : TriggerKind) : e ∈ triggerKinds := by
  cases e <;> decide

/-- Settles O7, by the reset lemma of each invariant. -/
theorem resetMeetsTheInvariants : Obligations.ResetMeetsTheInvariants := by
  have zone (z : Zone) : State.reset.zone z = .reset := reset_zone z
  have table : TableKept State.reset := TableKept.blockClosed.powerOn [] [] 0
  refine ⟨recorder_reset_sound, fun z => ?_, ⟨table, fun _ hb => absurd hb List.not_mem_nil⟩, fun z k taken held => ?_,
    configSound_iff.2 fun _ => powerOn_configHolds [] [] 0, ⟨Nat.zero_le _, List.Pairwise.nil, fun _ hg => absurd hg List.not_mem_nil⟩,
    fun k => ?_, fun k p hp => ?_, fun k => ?_, fun _ hf => absurd hf List.not_mem_nil⟩
  · rw [zone]
    exact zoneRec_reset_sound
  · rw [zone] at held
    cases held
  · simp only [State.lane, State.reset, Fin.getElem_fin, Vector.getElem_replicate]
    exact Lane.reset_sound
  · simp [State.pose, State.reset] at hp
  · simp only [State.wind, State.reset, Fin.getElem_fin, Vector.getElem_replicate]
    exact WindRec.initial_sound false

/-- Settles O6: the state after POWER_ON is `State.reset` with the model's own fields kept. -/
theorem powerOnTakesInitialValues : Obligations.PowerOnTakesInitialValues := by
  intro s
  refine ⟨_, rfl, rfl, rfl, rfl, rfl, rfl, rfl, fun i => ?_, fun k => ?_, fun z => ⟨reset_zone z, ?_⟩, rfl, rfl, rfl, rfl, rfl, rfl,
    rfl, rfl, fun e he => mem_settableKinds he, rfl, mem_triggerKinds, rfl⟩
  · simp [State.reset, Site.reset]
  · refine ⟨?_, ?_, ?_, ?_, ?_, ?_, ?_, ?_, ?_, ?_, ?_, ?_, ?_, ?_, ?_, ?_, ?_, ?_, fun i => ⟨?_, ?_⟩, ?_⟩
    all_goals simp [State.lane, State.pose, State.profile, State.map, State.chart, State.policy, State.staging, State.arb,
      State.govRec, State.wind, State.vane, State.reset, Site.reset, CraneStaging.empty, Lane.reset, Mgmt.reset, Air.reset,
      ArbRec.reset, GovRec.reset, WindRec.initial, VaneRec.reset, Recorder.reset, CounterReport.reset, Counter.zero, PerAxis.all]
  · simp [State.perm, State.reset, Perm.reset, noPerms]

end Sys2Proof.Machine

/-! PROOFS. Counters, the Report Queue and the Capture Buffer (R152 to R160, R170). -/

namespace Sys2Proof.Machine

set_option Elab.async false

/-! ### Counting (R152) -/

theorem Counter.add_value (c : Counter) (n : Nat) : (c.add n).value = min 65535 (c.value + n) := by
  unfold Counter.add
  split
  · rename_i hn
    exact (Nat.min_eq_left (Nat.le_of_lt hn)).symm
  · rename_i hn
    exact (Nat.min_eq_right (Nat.not_lt.1 hn)).symm

theorem Counter.add_marker (c : Counter) (n : Nat) :
    (c.add n).marker = true ↔ c.marker = true ∨ 65535 < c.value + n := by
  unfold Counter.add
  split
  · rename_i hn
    exact iff_of_true rfl (.inr hn)
  · rename_i hn
    exact (or_iff_left hn).symm

/-- Counting leaves every other counter of every crane. -/
theorem count_counter_other {j k : Crane} {c d : CounterId} (h : ¬(j = k ∧ d = c)) (n : Nat) (s : State) :
    (count k c n s).counter j d = s.counter j d := by
  by_cases hd : c = d
  · have hj : k ≠ j := fun hj => h ⟨hj.symm, hd.symm⟩
    simp [count, State.counter, Fin.val_ne_of_ne hj]
  · exact count_counter_ne hd k j n s

/-- Settles O16, by the two branches of `Counter.add`. -/
theorem countAddsAndSaturates : Obligations.CountAddsAndSaturates := by
  intro k c n s _
  dsimp only
  rw [count_counter_self]
  exact ⟨Counter.add_value _ n, Counter.add_marker _ n, fun _ _ h => count_counter_other h n s, rfl⟩

/-! ### Offering (R155) -/

/-- An offer changes the queue and the overflow count alone. -/
theorem offer_frame (o : Offer) (s : State) :
    offer o s = { s with recorder := { s.recorder with queue := (offer o s).recorder.queue,
                                                       overflow := (offer o s).recorder.overflow } } := by
  unfold offer
  dsimp only
  split
  · split
    · rfl
    · split <;> rfl
  · rfl

/-- An offer makes of the recorder what it makes of it in any state with that recorder and present stamp. -/
theorem offer_recorder_congr {s t : State} (o : Offer) (recorder : t.recorder = s.recorder) (stamp : t.stamp = s.stamp) :
    (offer o t).recorder = (offer o s).recorder := by
  unfold offer
  dsimp only
  rw [recorder, stamp]
  split
  · split
    · rfl
    · split <;> rfl
  · exact recorder

theorem offer_of_not_passes {o : Offer} {s : State} (h : passes s.recorder.settings o = false) : offer o s = s :=
  if_neg (by rw [h]; exact Bool.false_ne_true)

theorem Report.matches_iff {e : Report} {o : Offer} : e.matches o = true ↔ e.kind = o.kind ∧ e.crane = o.crane := by
  simp [Report.matches]

/-- Only the entry of the offer's kind and crane coalesces. -/
theorem offer_of_entry {o : Offer} {s : State} {before after : List Report} {e : Report}
    (met : passes s.recorder.settings o = true) (queue : s.recorder.queue = before ++ e :: after) (kind : e.kind = o.kind)
    (crane : e.crane = o.crane) (apart : s.recorder.queue.Pairwise Report.apart) :
    offer o s = s.setRecorder { s.recorder with queue := before ++ e.coalesce o s.stamp :: after } := by
  have same : e.matches o = true := Report.matches_iff.2 ⟨kind, crane⟩
  have any : s.recorder.queue.any (·.matches o) = true := List.any_eq_true.2 ⟨e, by rw [queue]; simp, same⟩
  rw [queue, List.pairwise_append, List.pairwise_cons] at apart
  obtain ⟨-, ⟨behind, -⟩, ahead⟩ := apart
  have other (x : Report) (hx : x ∈ before ++ after) : ¬x.matches o = true := fun h => by
    obtain ⟨kindX, craneX⟩ := Report.matches_iff.1 h
    rcases List.mem_append.1 hx with hx | hx
    · exact ahead x hx e List.mem_cons_self ⟨kindX.trans kind.symm, craneX.trans crane.symm⟩
    · exact behind x hx ⟨kind.trans kindX.symm, crane.trans craneX.symm⟩
  have kept (part : List Report) (h : part ⊆ before ++ after) :
      part.map (fun x => if x.matches o then x.coalesce o s.stamp else x) = part :=
    (List.map_congr_left fun x hx => if_neg (other x (h hx))).trans part.map_id
  rw [offer, if_pos met, if_pos any, queue, List.map_append, List.map_cons, if_pos same,
    kept before (List.subset_append_left ..), kept after (List.subset_append_right ..)]

/-- With no entry of its kind and crane and room in the queue, an offer is appended. -/
theorem offer_of_room {o : Offer} {s : State} (met : passes s.recorder.settings o = true)
    (apart : ∀ e ∈ s.recorder.queue, ¬(e.kind = o.kind ∧ e.crane = o.crane)) (room : s.recorder.queue.length < 32) :
    offer o s = s.setRecorder { s.recorder with queue := s.recorder.queue ++ [o.entry s.stamp] } := by
  rw [offer, if_pos met, any_matches_eq_false apart, if_neg Bool.false_ne_true, if_pos room]

/-- Settles O17, by the four outcomes of `offer`. -/
theorem offeredReportEntersTheQueue : Obligations.OfferedReportEntersTheQueue := by
  intro o s
  refine ⟨offer_frame o s, offer_of_not_passes, fun met before e after queue kind crane apart => ?_, fun met apart =>
    ⟨fun room => ?_, fun full => ?_⟩⟩
  · rw [offer_of_entry met queue kind crane apart]
    exact ⟨rfl, rfl⟩
  · rw [offer_of_room met apart room]
    exact ⟨rfl, rfl⟩
  · rw [offer_of_full met full apart]
    exact ⟨rfl, rfl⟩

/-! ### The pace timer (R157) -/

theorem noteOverflow_of_zero {s : State} (h : s.recorder.overflow = 0) : noteOverflow s = s := if_pos h

theorem noteOverflow_frame (s : State) :
    noteOverflow s = { s with recorder := { s.recorder with queue := (noteOverflow s).recorder.queue,
                                                            overflow := (noteOverflow s).recorder.overflow } } := by
  unfold noteOverflow
  dsimp only
  split <;> rfl

theorem exec_paceTimerExpiry_of_nil {s : State} (empty : s.recorder.queue = []) :
    exec .paceTimerExpiry s = .next s.paced := by
  have paced : s.paced.recorder.queue = [] := empty
  rw [exec_paceTimerExpiry, sendHead, paced]

/-- Settles O19, by whether the queue is empty. -/
theorem paceTimerSendsTheHead : Obligations.PaceTimerSendsTheHead := by
  intro s
  cases queue : s.recorder.queue with
  | nil =>
    refine ⟨s.paced, exec_paceTimerExpiry_of_nil queue, rfl, rfl, fun _ => ⟨rfl, queue, rfl⟩, fun _ _ h => (nomatch h), ?_⟩
    rfl
  | cons e rest =>
    have framed : noteOverflow (s.departed rest) = _ := noteOverflow_frame (s.departed rest)
    have kept : (noteOverflow (s.departed rest)).recorder.paceTimer = s.paced.recorder.paceTimer := by rw [framed]; rfl
    refine ⟨_, exec_paceTimerExpiry_of_cons queue, by rw [framed]; rfl, by rw [framed]; rfl, fun h => (nomatch h),
      fun e' rest' h => ?_, by rw [framed]; rfl⟩
    cases h
    refine ⟨by rw [framed]; rfl, fun none => ?_⟩
    rw [noteOverflow_of_zero (s := s.departed rest) none]
    exact ⟨rfl, none⟩

/-! ### Requests without a train -/

/-- A request that is no read is answered with one response frame, after its effect. -/
theorem exec_answered {c : Instr} {s t : State} {q : Req} {tag : Byte} {rs : Reply × State} {r : Reply} (judged : rs = (r, t))
    (hj : judgeRequest c s = some (judgedAs q tag rs) := by rfl) (single : isRead q = false := by rfl) :
    exec c s = .next { t with sent := s.sent ++ [responseFrame q tag r] } := by
  have run := exec_judged hj
  rw [show isRead (judgedAs q tag rs).req = false from single, if_neg Bool.false_ne_true, judged] at run
  exact run

/-- Settles O21, by the two tests of SET REPORTING. -/
theorem setReportingTakesItsSettings : Obligations.SetReportingTakesItsSettings := by
  intro tag tgt c s site
  have judged : setReporting tgt c s = if within 1 200 c.pace && within 0 3600 c.interval then (.ok, takeSettings c s)
      else (.no .range, s) := by
    rw [setReporting, site]
    rfl
  have inRange : (within 1 200 c.pace && within 0 3600 c.interval) = true ↔ 1 ≤ c.pace ∧ c.pace ≤ 200 ∧ c.interval ≤ 3600 := by
    simp [within, and_assoc]
  refine ⟨fun low high interval => ?_, fun out => ?_⟩
  · exact exec_answered (q := .setReporting) (judged.trans (if_pos (inRange.2 ⟨low, high, interval⟩)))
  · exact exec_answered (q := .setReporting) (judged.trans (if_neg fun h => out (inRange.1 h)))

/-! ### Triggers (R159, R160) -/

/-- What a trigger that finds the buffer empty captures (R159). -/
def captureOf (t : TriggerKind) (k : Option Crane) (z : Option Zone) (s : State) : Capture :=
  { stamp := s.stamp, trigger := t, crane := k, zone := z, snapshots := Vector.ofFn (snapshotOf s) }

theorem captureOf_snapshot (t : TriggerKind) (k : Option Crane) (z : Option Zone) (s : State) (j : Crane) :
    (captureOf t k z s).snapshots[j] = ⟨s.pose j, (s.lane j).state, (s.wind j).level, (s.vane j).state⟩ := by
  simp [captureOf, snapshotOf]

theorem trigger_of_empty {t : TriggerKind} {s : State} (k : Option Crane) (z : Option Zone)
    (enabled : t ∈ s.recorder.settings.triggers) (empty : s.recorder.capture = none) :
    trigger t k z s = offer { kind := .captureReady, crane := k, zone := z, value := triggerCode t }
      (s.setRecorder { s.recorder with capture := some (captureOf t k z s) }) := by
  unfold trigger
  dsimp only
  rw [List.contains_iff_mem.2 enabled, if_pos rfl]
  split
  · rfl
  · rename_i full
    cases full.symm.trans empty

theorem trigger_of_full {t : TriggerKind} {s : State} {c : Capture} (k : Option Crane) (z : Option Zone)
    (enabled : t ∈ s.recorder.settings.triggers) (full : s.recorder.capture = some c) :
    trigger t k z s = s.setRecorder { s.recorder with missed := min 255 (s.recorder.missed + 1) } := by
  unfold trigger
  dsimp only
  rw [List.contains_iff_mem.2 enabled, if_pos rfl]
  split
  · rename_i empty
    cases empty.symm.trans full
  · rfl

/-- A trigger changes the capture, the missed count and the queue with its overflow count alone. -/
theorem trigger_frame (t : TriggerKind) (k : Option Crane) (z : Option Zone) (s : State) :
    trigger t k z s = { s with recorder := { s.recorder with
      capture := (trigger t k z s).recorder.capture, missed := (trigger t k z s).recorder.missed
      queue := (trigger t k z s).recorder.queue, overflow := (trigger t k z s).recorder.overflow } } := by
  unfold trigger
  dsimp only
  split
  · split
    · rw [offer_frame]
      rfl
    · rfl
  · rfl

/-- An offer whose queue, overflow count, settings and stamp are the same fills the queue in the same way. -/
theorem offer_queue_congr {s t : State} (o : Offer) (settings : t.recorder.settings = s.recorder.settings)
    (queue : t.recorder.queue = s.recorder.queue) (stamp : t.stamp = s.stamp) :
    (offer o t).recorder.queue = (offer o s).recorder.queue := by
  unfold offer
  dsimp only
  rw [settings, queue, stamp]
  split
  · split
    · rfl
    · split
      · rfl
      · rfl
  · exact queue

/-- Settles O22, by whether the buffer is empty. -/
theorem triggerCaptureKeepsOrMisses : Obligations.TriggerCaptureKeepsOrMisses := by
  intro tag tgt s site enabled
  have judged : triggerCapture tgt s = (.done [byte (if s.recorder.capture.isNone then keptCode else missedCode)],
      trigger .supervisor none none s) := by
    rw [triggerCapture, site, List.contains_iff_mem.2 enabled]
    rfl
  refine ⟨_, exec_answered (q := .triggerCapture) judged, fun empty => ?_, fun c full => ?_, ?_⟩
  · rw [trigger_of_empty none none enabled empty, empty]
    have frame := offer_frame { kind := .captureReady, crane := none, zone := none, value := triggerCode .supervisor }
      (s.setRecorder { s.recorder with capture := some (captureOf .supervisor none none s) })
    refine ⟨rfl, by rw [frame]; rfl, offer_queue_congr _ rfl rfl rfl, captureOf .supervisor none none s, by rw [frame]; rfl,
      rfl, rfl, rfl, rfl, captureOf_snapshot .supervisor none none s⟩
  · rw [trigger_of_full none none enabled full, full]
    exact ⟨rfl, full, rfl, rfl⟩
  · rw [trigger_frame]

/-! ### Transfers (R154, R170) -/

/-- The recorder when the cranes that `who` names have been transferred (R154). -/
def Transferred (who : Crane → Bool) (s : State) (r : Recorder) : Prop :=
  r = { s.recorder with counters := r.counters, reports := r.reports }
    ∧ ∀ k : Crane,
      (who k = true → r.counters[k] = Vector.replicate 9 .zero
        ∧ r.reports[k] = { values := s.recorder.counters[k], stamp := some s.stamp })
      ∧ (who k = false → r.counters[k] = s.recorder.counters[k] ∧ r.reports[k] = s.recorder.reports[k])

theorem transferCrane_transferred (j : Crane) (s : State) : Transferred (· == j) s (transferCrane s j).recorder := by
  refine ⟨rfl, fun k => ⟨fun hk => ?_, fun hk => ?_⟩⟩
  · obtain rfl := beq_iff_eq.1 hk
    simp [transferCrane]
  · have hk : j ≠ k := fun h => by simp [h] at hk
    simp [transferCrane, Fin.val_ne_of_ne hk]

theorem foldl_transferCrane (l : List Crane) (nodup : l.Nodup) (s : State) :
    ∃ r, l.foldl transferCrane s = s.setRecorder r ∧ Transferred (l.contains ·) s r := by
  induction l generalizing s with
  | nil => exact ⟨s.recorder, rfl, rfl, fun _ => ⟨nofun, fun _ => ⟨rfl, rfl⟩⟩⟩
  | cons j l ih =>
    obtain ⟨fresh, nodup⟩ := List.nodup_cons.1 nodup
    obtain ⟨r, eq, frame, moved⟩ := ih nodup (transferCrane s j)
    obtain ⟨-, first⟩ := transferCrane_transferred j s
    refine ⟨r, eq, frame, fun k => ⟨fun hk => ?_, fun hk => ?_⟩⟩
    · rcases List.mem_cons.1 (List.contains_iff_mem.1 hk) with rfl | mem
      · obtain ⟨counters, reports⟩ := (moved k).2 (by simpa using fresh)
        obtain ⟨cleared, reported⟩ := (first k).1 (beq_self_eq_true k)
        exact ⟨counters.trans cleared, reports.trans reported⟩
      · obtain ⟨cleared, reported⟩ := (moved k).1 (List.contains_iff_mem.2 mem)
        obtain ⟨counters, -⟩ := (first k).2 (beq_eq_false_iff_ne.2 fun h => fresh (h ▸ mem))
        exact ⟨cleared, by rw [reported, counters]; rfl⟩
    · have out : k ∉ j :: l := by simpa using hk
      obtain ⟨other, rest⟩ := not_or.1 (mt List.mem_cons.2 out)
      obtain ⟨counters, reports⟩ := (moved k).2 (by simpa using rest)
      obtain ⟨counters', reports'⟩ := (first k).2 (beq_eq_false_iff_ne.2 other)
      exact ⟨counters.trans counters', reports.trans reports'⟩

theorem transferAll_eq (s : State) : ∃ r,
    transferAll s = offer { kind := .countersReady, value := 255 } (s.setRecorder r) ∧ Transferred (fun _ => true) s r := by
  obtain ⟨r, eq, frame, moved⟩ := foldl_transferCrane allCranes (List.nodup_finRange 8) s
  exact ⟨r, by rw [transferAll, eq]; rfl, frame, fun k =>
    ⟨fun _ => (moved k).1 (List.contains_iff_mem.2 (List.mem_finRange k)), nofun⟩⟩

namespace Transferred

variable {who : Crane → Bool} {s : State} {r : Recorder}

theorem cleared (h : Transferred who s r) {k : Crane} (hk : who k = true) (i : Fin 9) : (r.counters[k])[i] = ⟨0, false⟩ := by
  simp [((h.2 k).1 hk).1, Counter.zero]

theorem reported (h : Transferred who s r) {k : Crane} (hk : who k = true) : (r.reports[k]).stamp = some s.stamp
    ∧ ∀ i : Fin 9, (r.reports[k]).values[i] = (s.recorder.counters[k])[i] := by
  rw [((h.2 k).1 hk).2]
  exact ⟨rfl, fun _ => rfl⟩

/-- The report of a transfer enters the queue as it would have before, and nothing but what the transfer moved changes. -/
theorem offered (h : Transferred who s r) (o : Offer) :
    (offer o (s.setRecorder r)).recorder.queue = (offer o s).recorder.queue
      ∧ (offer o (s.setRecorder r)).recorder.counters = r.counters
      ∧ (offer o (s.setRecorder r)).recorder.reports = r.reports
      ∧ offer o (s.setRecorder r) = { s with recorder := { s.recorder with
          counters := r.counters, reports := r.reports, queue := (offer o (s.setRecorder r)).recorder.queue
          overflow := (offer o (s.setRecorder r)).recorder.overflow } } := by
  refine ⟨offer_queue_congr o ?_ ?_ rfl, ?_, ?_, ?_⟩
  · rw [State.setRecorder_recorder, h.1]
  · rw [State.setRecorder_recorder, h.1]
  · rw [offer_frame]
    rfl
  · rw [offer_frame]
    rfl
  · have kept (q : List Report) (n : Nat) : { r with queue := q, overflow := n }
        = { s.recorder with counters := r.counters, reports := r.reports, queue := q, overflow := n } := by
      rw [h.1]
    exact (offer_frame o (s.setRecorder r)).trans (congrArg (fun new => { s with recorder := new }) (kept _ _))

end Transferred

/-- Settles O20, by what a transfer makes of the recorder before its report is offered. -/
theorem transfersMoveTheCounters : Obligations.TransfersMoveTheCounters := by
  refine ⟨fun x s timer => ?_, fun tag tgt s who name target => ?_⟩
  · obtain ⟨r, eq, moved⟩ := transferAll_eq ((s.waitUntil x).setRecorder
      { s.recorder with transferTimer := some (x + 1000 * s.recorder.settings.interval) })
    have run : exec .transferIntervalExpiry s = .next (transferAll ((s.waitUntil x).setRecorder
        { s.recorder with transferTimer := some (x + 1000 * s.recorder.settings.interval) })) := by
      show execTransferIntervalExpiry s = _
      rw [execTransferIntervalExpiry, timer]
      rfl
    obtain ⟨queue, counters, reports, frame⟩ := moved.offered { kind := .countersReady, value := 255 }
    refine ⟨_, run, ?_⟩
    rw [eq]
    refine ⟨by rw [frame]; rfl, by rw [frame]; rfl, fun k i => ?_, fun k => ?_, ?_, ?_⟩
    · rw [counters, reports]
      exact ⟨moved.cleared rfl i, (moved.reported rfl).2 i⟩
    · rw [reports, (moved.reported rfl).1]
      rw [frame]
      rfl
    · exact queue.trans (offer_queue_congr _ rfl rfl rfl)
    · rw [frame]
      rfl
  · have judged : ∃ r, snapshotCounters tgt s = (.ok, offer ⟨.countersReady, name, none, none, (name.map craneNum).getD 255, false⟩
        (s.setRecorder r)) ∧ Transferred who s r := by
      rcases target with ⟨all, every, rfl⟩ | ⟨k, one, only, rfl⟩
      · obtain ⟨r, eq, moved⟩ := transferAll_eq s
        refine ⟨r, ?_, by rwa [funext every]⟩
        rw [snapshotCounters, if_pos all, eq]
        rfl
      · have named : who = (· == k) := funext fun j => Bool.eq_iff_iff.2 ((only j).trans beq_iff_eq.symm)
        refine ⟨_, ?_, named ▸ transferCrane_transferred k s⟩
        have single : targetIsAll tgt = false := by
          unfold targetCrane at one
          split at one
          · rename_i crane
            simp [targetIsAll, crane]
          · cases one
        rw [snapshotCounters, single, one]
        rfl
    obtain ⟨r, eq, moved⟩ := judged
    obtain ⟨queue, counters, reports, frame⟩ := moved.offered
      { kind := .countersReady, crane := name, value := (name.map craneNum).getD 255 }
    refine ⟨_, exec_answered (q := .snapshotCounters) eq, rfl, fun k hk => ?_, fun k hk => ?_, queue, ?_⟩
    · dsimp only
      rw [counters, reports]
      exact ⟨(moved.reported hk).1, fun i => ⟨moved.cleared hk i, (moved.reported hk).2 i⟩⟩
    · dsimp only
      rw [counters, reports]
      exact (moved.2 k).2 hk
    · dsimp only
      rw [frame]

end Sys2Proof.Machine

/-! PROOFS. What the reads answer (R153, R160, R169, R173, R174). -/

namespace Sys2Proof.Machine

set_option Elab.async false

/-! ### Lengths (R173) -/

@[simp] theorem b1_length (n : Nat) : (b1 n).length = 1 := rfl
@[simp] theorem flagByte_length (b : Bool) : (flagByte b).length = 1 := rfl
@[simp] theorem speedBytes_length (v : Int) : (speedBytes v).length = 2 := rfl
@[simp] theorem debouncedBytes_length (d : Debounced) : (debouncedBytes d).length = 2 := rfl
@[simp] theorem zoneSet_length (p : Zone → Bool) : (zoneSet p).length = 8 := by simp [zoneSet]

@[simp] theorem stampBytes_length (t : Stamp) : (stampBytes t).length = 6 := rfl
@[simp] theorem staticBytes_length (z : ZoneStatic) : (staticBytes z).length = 5 := rfl
@[simp] theorem entryBytes_length (e : Entry) : (entryBytes e).length = 3 := rfl

/-- Absent or present, an optional field has the width of its item and a presence byte. -/
theorem optField_length {α : Type} {width : Nat} {f : α → List Byte} (h : ∀ a, (f a).length = width) (o : Option α) :
    (optField width f o).length = width + 1 := by
  cases o with
  | none => rw [optField, List.length_cons, List.length_replicate]
  | some a => rw [optField, List.length_cons, h]

theorem axisBytes_length {α : Type} {width : Nat} {f : α → List Byte} (h : ∀ a, (f a).length = width) (p : PerAxis α) :
    (axisBytes f p).length = 3 * width := by
  rw [axisBytes, List.length_append, List.length_append, h, h, h]
  omega

@[simp] theorem optByte_length {α : Type} (f : α → Nat) (o : Option α) : (optField 1 (fun a => b1 (f a)) o).length = 2 :=
  optField_length (fun a => b1_length (f a)) o
@[simp] theorem optFlagged_length {α : Type} (f : α → Nat) (g : α → Bool) (o : Option α) :
    (optField 2 (fun a => b1 (f a) ++ flagByte (g a)) o).length = 3 :=
  optField_length (width := 2) (f := fun a => b1 (f a) ++ flagByte (g a)) (fun _ => rfl) o
@[simp] theorem optB1_length (o : Option Nat) : (optField 1 b1 o).length = 2 := optField_length b1_length o
@[simp] theorem optBe2_length (o : Option Nat) : (optField 2 be2 o).length = 3 := optField_length be2_length o
@[simp] theorem optBe4_length (o : Option Nat) : (optField 4 be4 o).length = 5 := optField_length be4_length o
@[simp] theorem optBe6_length (o : Option Nat) : (optField 6 be6 o).length = 7 := optField_length be6_length o
@[simp] theorem optStamp_length (o : Option Stamp) : (optField 6 stampBytes o).length = 7 := optField_length stampBytes_length o
@[simp] theorem optStatic_length (o : Option ZoneStatic) : (optField 5 staticBytes o).length = 6 :=
  optField_length staticBytes_length o
@[simp] theorem optZone_length (z : Option Zone) : (optZone z).length = 2 := optByte_length zoneNum z
@[simp] theorem optCrane_length (k : Option Crane) : (optCrane k).length = 2 := optByte_length craneNum k

@[simp] theorem poseBytes_length (p : Pose) : (poseBytes p).length = 30 := by
  simp [poseBytes, axisBytes_length speedBytes_length]

@[simp] theorem optPose_length (p : Option Pose) : (optPose p).length = 31 := optField_length poseBytes_length p

@[simp] theorem boundaryBytes_length (b : Boundary) : (boundaryBytes b).length = 6 := by
  rw [boundaryBytes, List.length_append, optField_length (width := 4) fun d => be4_length (twos 32 d), b1_length]

@[simp] theorem listBytes_length {α : Type} (most width : Nat) (f : α → List Byte) (l : List α) :
    (listBytes most width f l).length = most * width + 1 := by
  rw [listBytes, List.length_append, b1_length, padTo_length, Nat.add_comm]

theorem craneData_length (s : State) (k : Crane) {part : Nat} (h : part ≤ 7) :
    [14, 31, 24, 22, 23, 21, 24, 27][part]? = some (craneData s k part).length := by
  have part0 : (cranePart0 s k).length = 14 := by
    have answer := optField_length (width := 3) (f := fun a : Answer × Nat => b1 (answerCode a.1) ++ be2 a.2) (fun _ => rfl)
    simp [cranePart0, answer]
  have part1 : (optPose (s.pose k)).length = 31 := optPose_length _
  have part2 : (cranePart2 s k).length = 24 := by simp [cranePart2]
  have part3 : (cranePart3 s k).length = 22 := by simp [cranePart3]
  have part4 : (cranePart4 s k).length = 23 := by
    simp [cranePart4, axisBytes_length speedBytes_length, axisBytes_length optBe2_length]
  have part5 : (cranePart5 s k).length = 21 := axisBytes_length (optField_length boundaryBytes_length) _
  have part6 : (cranePart6 s k).length = 24 := by simp [cranePart6]
  have part7 : (cranePart7 s k).length = 27 := by simp [cranePart7]
  interval_cases part
  · exact congrArg some part0.symm
  · exact congrArg some part1.symm
  · exact congrArg some part2.symm
  · exact congrArg some part3.symm
  · exact congrArg some part4.symm
  · exact congrArg some part5.symm
  · exact congrArg some part6.symm
  · exact congrArg some part7.symm

theorem zoneData_length (s : State) (z : Zone) : (zoneData s z).length = 50 := by simp [zoneData]

theorem bookingPart0_length (b : Booking) : (bookingPart0 b).length = 24 := by simp [bookingPart0]

theorem bookingPart1_length (b : Booking) : (bookingPart1 b).length = 27 := by simp [bookingPart1]

theorem counterValues_length (r : CounterReport) : (counterValues r).length = 18 := by
  simp [counterValues, List.length_flatMap]

theorem counterMarkers_length (r : CounterReport) : (counterMarkers r).length = 16 := by
  simp [counterMarkers, List.length_flatMap]

/-! ### Sets of zones (R173, R174) -/

theorem testBit_flagSet (bs : List Bool) (i : Nat) : (flagSet bs).testBit i = bs.getD i false := by
  induction bs generalizing i with
  | nil => simp [flagSet]
  | cons b bs ih =>
    have bit : flagSet (b :: bs) = Nat.bit b (flagSet bs) := by
      cases b <;> simp [flagSet, Nat.bit, Nat.add_comm]
    rw [bit]
    cases i with
    | zero => rw [Nat.testBit_bit_zero, List.getD_cons_zero]
    | succ i => rw [Nat.testBit_bit_succ, ih, List.getD_cons_succ]

/-- Zone z stands at bit (z - 1) mod 8 of byte (z - 1) / 8. -/
theorem zoneSet_bit (p : Zone → Bool) (z : Zone) :
    ((zoneSet p)[z.val / 8]?).map (·.getLsbD (z.val % 8)) = some (p z) := by
  have byteIn : z.val / 8 < 8 := by omega
  have bitIn : z.val % 8 < 8 := by omega
  have same : (⟨8 * (z.val / 8) + z.val % 8, by omega⟩ : Zone) = z := Fin.ext (by simp only; omega)
  have stands : (zoneSet p)[z.val / 8]? = some (byte (flagSet ((List.finRange 8).map fun j =>
      p ⟨8 * (z.val / 8) + j.val, by omega⟩))) := by simp [zoneSet, byteIn]
  rw [stands, Option.map_some, byte, BitVec.getLsbD_ofNat, testBit_flagSet]
  simp [bitIn, same]

/-- Byte `i` of the block behind `n` bytes. -/
theorem getElem?_behind {n i : Nat} {before after : List Byte} (h : before.length = n) :
    (before ++ after)[n + i]? = after[i]? := by
  rw [List.getElem?_append_right (by omega), h, Nat.add_sub_cancel_left]

theorem craneData_two (s : State) (k : Crane) (z : Zone) :
    ((craneData s k 2)[z.val / 8]?).map (·.getLsbD (z.val % 8)) = some (decide ((s.zone z).heldBy = some k))
      ∧ ((craneData s k 2)[8 + z.val / 8]?).map (·.getLsbD (z.val % 8)) = some (decide ((s.zone z).sweptFor = some k))
      ∧ ((craneData s k 2)[16 + z.val / 8]?).map (·.getLsbD (z.val % 8))
        = some (decide ((s.zone z).sweepPending = some k)) := by
  have byteIn : z.val / 8 < 8 := by omega
  have first (p : Zone → Bool) (rest : List Byte) : (zoneSet p ++ rest)[z.val / 8]? = (zoneSet p)[z.val / 8]? :=
    List.getElem?_append_left (by rw [zoneSet_length]; exact byteIn)
  show ((cranePart2 s k)[_]?).map _ = _ ∧ ((cranePart2 s k)[_]?).map _ = _ ∧ ((cranePart2 s k)[_]?).map _ = _
  unfold cranePart2
  refine ⟨?_, ?_, ?_⟩
  · rw [List.append_assoc, first, zoneSet_bit, isHeldBy, beq_eq_decide]
  · rw [List.append_assoc, getElem?_behind (zoneSet_length _), first, zoneSet_bit, beq_eq_decide]
  · rw [getElem?_behind (n := 16) (by rw [List.length_append, zoneSet_length, zoneSet_length]), zoneSet_bit, beq_eq_decide]

/-! ### The reads (R150, R153, R160, R169) -/

/-- A read is answered with the train of its reply, after its effect. -/
theorem exec_read {c : Instr} {s t : State} {q : Req} {tag : Byte} {r : Reply}
    (hj : judgeRequest c s = some ⟨q, tag, r, t⟩) (train : isRead q = true := by rfl) :
    exec c s = .next { t with sent := s.sent ++ responseTrain q tag r } := by
  have run := exec_judged hj
  rw [show isRead (Judged.mk q tag r t).req = true from train, if_pos rfl] at run
  exact run

/-- A target that names a crane has the sort of a crane (R161). -/
theorem sort_of_targetCrane {tgt : Target} {k : Crane} (h : targetCrane tgt = some k) : tgt.sort = 1 := by
  unfold targetCrane at h
  split at h
  · assumption
  · cases h

theorem sort_of_targetBooking {tgt : Target} {id : Nat} (h : targetBooking tgt = some id) : tgt.sort = 3 := by
  unfold targetBooking at h
  split at h
  · assumption
  · cases h

theorem readCrane_of_target {tgt : Target} {k : Crane} {part : Nat} (h : targetCrane tgt = some k) (low : part ≤ 7) (s : State) :
    readCrane tgt part s = .done (craneData s k part) := by
  rw [readCrane, if_neg (not_not.2 (sort_of_targetCrane h)), if_neg (Nat.not_lt.2 low), h]

theorem readZone_of_target {tgt : Target} {z : Zone} (h : targetZone tgt = some z) (s : State) :
    readZone tgt s = .done (zoneData s z) := by
  rw [readZone, h]

theorem readBooking_of_target {tgt : Target} {id part : Nat} {b : Booking} {s : State} (h : targetBooking tgt = some id)
    (hb : findBooking s id = some b) (low : part ≤ 1) :
    readBooking tgt part s = .done (if part = 0 then bookingPart0 b else bookingPart1 b) := by
  rw [readBooking, if_neg (not_not.2 (sort_of_targetBooking h)), if_neg (Nat.not_lt.2 low), h, Option.bind_some, hb]

theorem readCounters_of_target {tgt : Target} {k : Crane} {part : Nat} (h : targetCrane tgt = some k) (low : part ≤ 1)
    (s : State) : readCounters tgt part s
      = .done (if part = 0 then counterValues s.recorder.reports[k] else counterMarkers s.recorder.reports[k]) := by
  rw [readCounters, if_neg (not_not.2 (sort_of_targetCrane h)), if_neg (Nat.not_lt.2 low), h]

/-- Settles O23: what each read answers for a target it names, and the lengths of the parts. -/
theorem readsAnswerTheirData : Obligations.ReadsAnswerTheirData := by
  refine ⟨fun tag tgt part s => ⟨fun k crane low => ⟨?_, craneData_length s k low⟩, fun z zone => ⟨?_, zoneData_length s z⟩,
    fun id b booking found => ⟨?_, ?_, bookingPart0_length b, bookingPart1_length b⟩, fun k crane => ⟨?_, ?_,
      counterValues_length _, counterMarkers_length _⟩⟩, fun s k z => ?_⟩
  · rw [← readCrane_of_target crane low]
    exact exec_read (q := .readCrane) rfl
  · rw [← readZone_of_target zone]
    exact exec_read (q := .readZone) rfl
  · rintro rfl
    rw [exec_read (q := .readBooking) rfl, readBooking_of_target booking found (Nat.zero_le 1), if_pos rfl]
  · rintro rfl
    rw [exec_read (q := .readBooking) rfl, readBooking_of_target booking found le_rfl, if_neg Nat.one_ne_zero]
  · rintro rfl
    rw [exec_read (q := .readCounters) rfl, readCounters_of_target crane (Nat.zero_le 1), if_pos rfl]
  · rintro rfl
    rw [exec_read (q := .readCounters) rfl, readCounters_of_target crane le_rfl, if_neg Nat.one_ne_zero]
  · obtain ⟨held, swept, pending⟩ := craneData_two s k z
    exact ⟨by simpa using held, swept, pending⟩

/-! ### READ CAPTURE (R160) -/

@[simp] theorem captureHead_length (c : Capture) : (captureHead c).length = 11 := by simp [captureHead]

@[simp] theorem snapshotBytes_length (n : Snapshot) : (snapshotBytes n).length = 34 := by simp [snapshotBytes]

/-- Part 0 holds the capture's own items, every other part the record of its crane. -/
theorem captureData_cases (s : State) {part : Nat} (low : part ≤ 8) :
    (part = 0 ∧ captureData s part = optField 11 captureHead s.recorder.capture ++ b1 s.recorder.missed)
      ∨ part ≠ 0 ∧ ∃ k : Crane, captureData s part = optField 34 (fun c => snapshotBytes c.snapshots[k]) s.recorder.capture := by
  rcases Nat.eq_zero_or_pos part with rfl | pos
  · exact .inl ⟨rfl, rfl⟩
  · have crane : craneOf? part = some ⟨part - 1, by omega⟩ := dif_pos ⟨pos, low⟩
    refine .inr ⟨Nat.ne_of_gt pos, ⟨part - 1, by omega⟩, ?_⟩
    unfold captureData
    dsimp only
    rw [crane]

theorem optField_head {α : Type} (width : Nat) (f : α → List Byte) (o : Option α) (rest : List Byte) :
    (optField width f o ++ rest)[0]? = some (if o.isSome = true then 1#8 else 0#8) := by
  cases o <;> rfl

/-- Part 0 empties the buffer; with an empty buffer nothing changes. -/
theorem emptyCapture_eq (s : State) : emptyCapture s = s.setRecorder { s.recorder with
    capture := none, missed := if s.recorder.capture.isSome = true then 0 else s.recorder.missed } := by
  unfold emptyCapture
  cases full : s.recorder.capture with
  | none =>
    show s = s.setRecorder { s.recorder with capture := none, missed := s.recorder.missed }
    rw [← full]
    rfl
  | some c => rfl

/-- Settles O24, by whether the part asked for is part 0. -/
theorem readCaptureAnswersAndEmpties : Obligations.ReadCaptureAnswersAndEmpties := by
  intro tag tgt part s site low
  have judged : readCapture tgt part s = (.done (captureData s part), if part = 0 then emptyCapture s else s) := by
    rw [readCapture, site, if_neg (Nat.not_lt.2 low)]
    rfl
  have run : exec (.readCapture tag tgt part) s = .next { (if part = 0 then emptyCapture s else s) with
      sent := s.sent ++ responseTrain .readCapture tag (.done (captureData s part)) } :=
    exec_read (q := .readCapture) (congrArg (some ∘ judgedAs .readCapture tag) judged)
  refine ⟨_, run, rfl, ?_⟩
  rcases captureData_cases s low with ⟨rfl, data⟩ | ⟨other, k, data⟩
  · rw [data, if_pos rfl, emptyCapture_eq]
    refine ⟨?_, optField_head 11 captureHead _ _, rfl, ?_, rfl⟩
    · rw [List.length_append, optField_length captureHead_length]
      rfl
    · by_cases full : s.recorder.capture.isSome = true <;> simp [full]
  · have kept : (if part = 0 then emptyCapture s else s) = s := if_neg other
    rw [data, kept]
    refine ⟨?_, ?_, ?_, ?_, rfl⟩
    · rw [optField_length fun c => snapshotBytes_length _, if_neg other]
    · rw [← List.append_nil (optField _ _ _)]
      exact optField_head _ _ _ _
    · rw [if_neg other]
    · rw [if_neg fun h => other h.1]

end Sys2Proof.Machine

/-! PROOFS. Frames on the lane ports (R23, R171): those that are not accepted, and what an accepted pose does to its lane, its pose
record and the other cranes (R25 to R31, R34, R42). -/

namespace Sys2Proof.Machine

set_option Elab.async false

/-! ### Bytes of a demand (R171) -/

theorem setLineC_c_self (k : Crane) (bs : List RxByte) (s : State) : (s.setLineC k bs).line.c[k] = bs := by
  simp [State.setLineC]

theorem setLineC_setLineC (k : Crane) (as bs : List RxByte) (s : State) :
    (s.setLineC k as).setLineC k bs = s.setLineC k bs := by
  simp [State.setLineC]

theorem setLineC_same {k : Crane} {bs : List RxByte} {s : State} (h : s.line.c[k] = bs) : s.setLineC k bs = s := by
  subst h
  simp [State.setLineC]

/-- Bytes short of a whole frame are collected. -/
theorem foldl_arriveC_short (k : Crane) (bs : List RxByte) (s : State) (h : (s.line.c[k] ++ bs).length < 32) :
    bs.foldl (arriveC k) s = s.setLineC k (s.line.c[k] ++ bs) := by
  induction bs generalizing s with
  | nil => rw [List.foldl_nil, List.append_nil, setLineC_same rfl]
  | cons b bs ih =>
    rw [List.append_cons] at h ⊢
    have short : (s.line.c[k] ++ [b]).length < 32 := by
      rw [List.length_append] at h
      exact Nat.lt_of_le_of_lt (Nat.le_add_right _ _) h
    have first : arriveC k s b = s.setLineC k (s.line.c[k] ++ [b]) := if_pos short
    rw [List.foldl_cons, first, ih _ (by rwa [setLineC_c_self]), setLineC_c_self, setLineC_setLineC]

/-- 32 bytes on an idle C-port are judged as one frame. -/
theorem foldl_arriveC_frame {k : Crane} {f : List RxByte} {s : State} (idle : s.line.c[k] = []) (whole : f.length = 32) :
    f.foldl (arriveC k) s = judgeOnC k f s := by
  obtain ⟨bs, b, rfl⟩ := (List.eq_nil_or_concat f).resolve_left fun h => by rw [h] at whole; cases whole
  have before : bs.length = 31 := by simpa using whole
  have collected : bs.foldl (arriveC k) s = s.setLineC k bs := by
    rw [foldl_arriveC_short k bs s (by rw [idle, List.nil_append]; omega), idle, List.nil_append]
  have last : arriveC k (s.setLineC k bs) b = judgeOnC k (bs ++ [b]) s := by
    unfold arriveC
    rw [setLineC_c_self, setLineC_setLineC, setLineC_same idle]
    exact if_neg (by simp [before])
  rw [List.concat_eq_append, List.foldl_append, collected, List.foldl_cons, List.foldl_nil, last]

theorem exec_demandFrame {k : Crane} {f : List RxByte} {s : State} (idle : s.line.c[k] = []) (whole : f.length = 32) :
    exec (.demandFrame k f) s = .next (judgeOnC k f s) :=
  congrArg Host.Outcome.next (foldl_arriveC_frame idle whole)

/-! ### Frames that are not accepted (R23) -/

theorem laneAccepts_iff {type : Nat} {k : Crane} {f : List RxByte} : laneAccepts type k f = true ↔
    checkOk f = true ∧ unsignedAt (plainBytes f) 0 1 = type ∧ unsignedAt (plainBytes f) 1 1 = k.val + 1 := by
  simp [laneAccepts, craneNum, and_assoc]

theorem judgeOnD_of_rejected {k : Crane} {f : List RxByte} (h : ¬laneAccepts poseType k f = true) (s : State) :
    judgeOnD k f s = count k .frameErrors 1 s := if_neg h

theorem judgeOnC_of_rejected {k : Crane} {f : List RxByte} (h : ¬laneAccepts demandType k f = true) (s : State) :
    judgeOnC k f s = count k .frameErrors 1 s := if_neg h

/-- Settles O25: whole frames are judged once, bytes short of a frame are counted when the line is idle. -/
theorem rejectedLaneFrameIsOnlyCounted : Obligations.RejectedLaneFrameIsOnlyCounted := by
  refine fun k f s => ⟨fun whole idle bad => ?_, fun whole idle bad => ?_, fun short some => ⟨fun idle => ?_, fun idle => ?_⟩,
    fun idle => ?_, fun idle => ?_⟩
  · rw [exec_poseFrame idle whole, judgeOnD_of_rejected (mt laneAccepts_iff.1 bad)]
  · rw [exec_demandFrame idle whole, judgeOnC_of_rejected (mt laneAccepts_iff.1 bad)]
  · have collected : f.foldl (arriveD k) s = s.setLineD k f := by
      rw [foldl_arriveD_short k f s (by rwa [idle, List.nil_append]), idle, List.nil_append]
    refine ⟨s.setLineD k f, congrArg Host.Outcome.next collected, rfl, ?_⟩
    show execIdleLineEnd (.d k) (s.setLineD k f) = _
    rw [execIdleLineEnd, setLineD_d_self, if_neg some, setLineD_setLineD, setLineD_same idle]
  · have collected : f.foldl (arriveC k) s = s.setLineC k f := by
      rw [foldl_arriveC_short k f s (by rwa [idle, List.nil_append]), idle, List.nil_append]
    refine ⟨s.setLineC k f, congrArg Host.Outcome.next collected, rfl, ?_⟩
    show execIdleLineEnd (.c k) (s.setLineC k f) = _
    rw [execIdleLineEnd, setLineC_c_self, if_neg some, setLineC_setLineC, setLineC_same idle]
  · exact congrArg Host.Outcome.next (if_pos idle)
  · exact congrArg Host.Outcome.next (if_pos idle)

/-! ### The lane of an accepted pose (R25, R28 to R31) -/

theorem exec_acceptedPose {k : Crane} {f : List RxByte} {s : State} (idle : s.line.d[k] = []) (whole : f.length = 32)
    (accepted : laneAccepts poseType k f = true) : exec (.poseFrame k f) s = .next (acceptPose k (plainBytes f) s) := by
  rw [exec_poseFrame idle whole]
  exact congrArg Host.Outcome.next (if_pos accepted)

/-- The lane record that has taken a pose's number (R25). -/
def Lane.numbered (l : Lane) (seq : Nat) : Lane := { l with lastSeq := some seq }

/-- The lane record of crane k before the blocks act on its pose. -/
def poseLane (k : Crane) (f : List Byte) (s : State) : Lane :=
  ((s.lane k).numbered (poseIn f).seq).advance (s.lane k).lastSeq (poseIn f).seq (some (s.now + tstaleOf s k))

/-- The blocks halt the crane at most. -/
theorem judgedPose_lane (k : Crane) (f : List Byte) (s : State) : (judgedPose k f s).lane k = poseLane k f s
    ∨ (judgedPose k f s).lane k = { poseLane k f s with control := .halted } := by
  have advanced : (advancedPose k f s).2.lane k = poseLane k f s := lane_of_lanes (advancedPose_lanes k f s)
  rw [← advanced]
  exact poseBlocks_haltsOnly k _ _ k

theorem judgedPose_lane_other {j k : Crane} (h : j ≠ k) (f : List Byte) (s : State) :
    (judgedPose k f s).lane j = s.lane j ∨ (judgedPose k f s).lane j = { s.lane j with control := .halted } := by
  rw [← lane_of_lanes_ne (advancedPose_lanes k f s) h]
  exact poseBlocks_haltsOnly k _ _ j

theorem forwardPose_lane (k : Crane) (flags : Nat) (s : State) (j : Crane) : (forwardPose k flags s).lane j = s.lane j :=
  lane_congr ((forwardPose_within k flags s).lanes rfl) j

theorem acceptPose_lane (k : Crane) (f : List Byte) (s : State) :
    (acceptPose k f s).lane k = ((judgedPose k f s).lane k).substituted := by
  rw [acceptPose_eq, lane_of_lanes (substituteStop_lanes k _), forwardPose_lane]

theorem acceptPose_lane_other {j k : Crane} (h : j ≠ k) (f : List Byte) (s : State) :
    (acceptPose k f s).lane j = (judgedPose k f s).lane j := by
  rw [acceptPose_eq, lane_of_lanes_ne (substituteStop_lanes k _) h, forwardPose_lane]

/-- A halt and a substituted STOP leave lane state, sync run, numbers, cab and timers. -/
theorem Lane.substituted_kept (l : Lane) : l.substituted.state = l.state ∧ l.substituted.syncRun = l.syncRun
    ∧ l.substituted.tstale = l.tstale ∧ l.substituted.tlost = l.tlost ∧ l.substituted.lastSeq = l.lastSeq
    ∧ l.substituted.cab = l.cab ∧ l.substituted.tcab = l.tcab := by
  unfold Lane.substituted
  split <;> exact ⟨rfl, rfl, rfl, rfl, rfl, rfl, rfl⟩

theorem acceptPose_lane_kept (k : Crane) (f : List Byte) (s : State) :
    ((acceptPose k f s).lane k).state = (poseLane k f s).state ∧ ((acceptPose k f s).lane k).syncRun = (poseLane k f s).syncRun
      ∧ ((acceptPose k f s).lane k).tstale = (poseLane k f s).tstale
      ∧ ((acceptPose k f s).lane k).tlost = (poseLane k f s).tlost
      ∧ ((acceptPose k f s).lane k).lastSeq = (poseLane k f s).lastSeq
      ∧ ((acceptPose k f s).lane k).cab = (poseLane k f s).cab ∧ ((acceptPose k f s).lane k).tcab = (poseLane k f s).tcab := by
  obtain ⟨state, run, stale, lost, seq, cab, tcab⟩ := Lane.substituted_kept ((judgedPose k f s).lane k)
  rw [acceptPose_lane, state, run, stale, lost, seq, cab, tcab]
  rcases judgedPose_lane k f s with h | h
  · rw [h]
    exact ⟨rfl, rfl, rfl, rfl, rfl, rfl, rfl⟩
  · rw [h]
    exact ⟨rfl, rfl, rfl, rfl, rfl, rfl, rfl⟩

theorem nextRun_eq (run : Nat) (last : Option Nat) (seq : Nat) :
    nextRun run last seq = if run ≠ 0 ∧ last = some ((seq + 255) % 256) then run + 1 else 1 := by
  unfold nextRun
  by_cases zero : run = 0
  · rw [if_pos zero, if_neg fun h => h.1 zero]
  · rw [if_neg zero]
    exact if_congr (by simp [zero]) rfl rfl

/-- Settles O27, by the lane state the pose finds. -/
theorem acceptedPoseAdvancesTheLane : Obligations.AcceptedPoseAdvancesTheLane := by
  intro k f s idle whole accepted
  dsimp only
  rw [← nextRun_eq]
  obtain ⟨state, run, stale, lost, -⟩ := acceptPose_lane_kept k (plainBytes f) s
  refine ⟨_, exec_acceptedPose idle whole accepted, ?_⟩
  rw [state, run, stale, lost]
  unfold poseLane
  refine ⟨fun syncing short => ?_, fun syncing long => ?_, fun live => ?_, fun late => ?_, fun gone => ?_⟩
  · rw [Lane.advance_of_syncing (l := (s.lane k).numbered _) syncing, show (Lane.numbered (s.lane k) _).syncRun = (s.lane k).syncRun from rfl,
      if_pos short]
    exact ⟨syncing, rfl, rfl, rfl⟩
  · rw [Lane.advance_of_syncing (l := (s.lane k).numbered _) syncing, show (Lane.numbered (s.lane k) _).syncRun = (s.lane k).syncRun from rfl,
      if_neg (Nat.not_lt.2 long)]
    exact ⟨rfl, rfl, rfl, rfl⟩
  · rw [Lane.advance_of_live (l := (s.lane k).numbered _) live]
    exact ⟨live, rfl, rfl, rfl⟩
  · rw [Lane.advance_of_stale (l := (s.lane k).numbered _) late]
    exact ⟨rfl, rfl, rfl, rfl⟩
  · rw [Lane.advance_of_lost (l := (s.lane k).numbered _) gone]
    exact ⟨rfl, rfl, rfl, rfl⟩

/-! ### Debounced flags (R26) -/

theorem acceptPose_pose (k : Crane) (f : List Byte) (s : State) :
    (acceptPose k f s).pose k = some (poseRecord (s.pose k) (poseIn f) s.stamp) := by
  rw [pose_congr (acceptPose_poses k f s), State.setPose_pose_self]

/-- Settles O29: the three cases of `judge`, and the flags of the record an accepted pose gives. -/
theorem debounceFollowsItsTable : Obligations.DebounceFollowsItsTable := by
  refine ⟨fun f seen => ⟨fun same => ?_, fun other clear => ?_, fun other candidate => ?_⟩, fun k f s idle whole accepted => ?_⟩
  · rw [Debounced.judge, if_pos same]
  · rw [Debounced.judge, if_neg other, if_neg (by rw [clear]; exact Bool.false_ne_true)]
  · rw [Debounced.judge, if_neg other, if_pos candidate]
  · refine ⟨_, _, exec_acceptedPose idle whole accepted, acceptPose_pose k _ s, ?_⟩
    cases h : s.pose k with
    | none => exact ⟨rfl, rfl, rfl⟩
    | some p => exact ⟨rfl, rfl, rfl⟩

end Sys2Proof.Machine

/-! PROOFS. An accepted pose is recorded, forwarded once and, while the cab is SILENT, followed by one substituted STOP
(R25, R27, R34, R42). -/

namespace Sys2Proof.Machine

set_option Elab.async false

/-! ### What a pose leaves of the other cranes and of the count of substitutes -/

theorem govRec_congr {s t : State} (h : t.gov = s.gov) (k : Crane) : t.govRec k = s.govRec k := by
  unfold State.govRec; rw [h]

/-- From `s` to `t` no Motion Governor record but that of crane k changes, nor the count of its substituted STOPs. -/
structure PoseKept (k : Crane) (s t : State) : Prop where
  gov : ∀ j, j ≠ k → t.govRec j = s.govRec j
  stops : t.counter k .stopSubstitutes = s.counter k .stopSubstitutes

namespace PoseKept

variable {k : Crane} {s t u : State}

theorem refl (k : Crane) (s : State) : PoseKept k s s := ⟨fun _ _ => rfl, rfl⟩

theorem trans (h : PoseKept k s t) (h' : PoseKept k t u) : PoseKept k s u :=
  ⟨fun j hj => (h'.gov j hj).trans (h.gov j hj), h'.stops.trans h.stops⟩

theorem within {w : Touch} (h : PoseKept k s t) (h' : Within w t u) (gov : w.gov = false := by rfl)
    (counters : w.counters = false := by rfl) : PoseKept k s u :=
  h.trans ⟨fun j _ => govRec_congr (h'.gov gov) j, counter_congr (h'.recorder.counters counters) k _⟩

theorem setGov (h : PoseKept k s t) (g : GovRec) : PoseKept k s (t.setGov k g) :=
  h.trans ⟨fun _ hj => State.setGov_govRec_ne _ _ _ _ hj, rfl⟩

theorem count (h : PoseKept k s t) (j : Crane) {c : CounterId} (n : Nat) (other : c ≠ .stopSubstitutes := by decide) :
    PoseKept k s (count j c n t) :=
  h.trans ⟨fun _ _ => rfl, count_counter_ne other j k n t⟩

theorem ite {c : Prop} [Decidable c] (ht : PoseKept k s t) (hu : PoseKept k s u) : PoseKept k s (if c then t else u) := by
  split
  · exact ht
  · exact hu

theorem foldl {α : Type} {f : State → α → State} (h : ∀ t a, PoseKept k t (f t a)) (l : List α) (s : State) :
    PoseKept k s (l.foldl f s) :=
  foldl_keeps (P := PoseKept k s) (fun t a ht => ht.trans (h t a)) l s (refl k s)

theorem countIntrusion (h : PoseKept k s t) (j : Crane) : PoseKept k s (countIntrusion j t) := by
  unfold Machine.countIntrusion
  dsimp only
  split
  · exact h.count j 1
  · exact (h.count j 1).within (updateBooking_within _ _ _)

theorem footprintZone (j : Crane) (f : List Occ) (settling : Bool) (old : List Zone) (s : State) (z : Zone) :
    PoseKept k s (footprintZone j f settling old s z) := by
  unfold Machine.footprintZone
  split
  · exact refl k s
  split
  · split
    · exact refl k s
    · exact (((refl k s).count j 1).within (offer_within _ _)).within (trigger_within _ _ _ _)
  split
  · split
    · exact (refl k s).within (acquire_within _ _ _ _)
    · exact ((((refl k s).within (acquire_within _ _ _ _)).countIntrusion j).within (offer_within _ _)).within
        (trigger_within _ _ _ _)
  · split
    · exact (refl k s).within (takeExitOnly_within _ _ _ _)
    · exact ((((refl k s).within (acquire_within _ _ _ _)).countIntrusion j).within (offer_within _ _)).within
        (trigger_within _ _ _ _)

theorem judgePose (k : Crane) (s : State) : PoseKept k s (judgePose k s) := by
  have footprint : PoseKept k s (footprintTaken k s) := by
    unfold footprintTaken footprintStep
    dsimp only
    exact ((foldl (fun t z => footprintZone k _ _ _ t z) _ s).within (setArb_within _ _ _)).within
      (foldl_within (entitlementZone_within k _) _ _)
  exact judgePose_keeps k s (footprint.within (releaseStep_within _ _ _ _ _)) (fun t a ht => ht.within (setArb_within t k a))
    fun t j ht => ht.within (haltState_within j t)

theorem overrunCheck (h : PoseKept k s t) : PoseKept k s (overrunCheck k t) := by
  unfold Machine.overrunCheck
  split
  · exact h.setGov _
  split
  · exact h
  · exact (((h.count k 1).within (offer_within _ _)).within (trigger_within _ _ _ _)).setGov _

theorem chartJudge (h : PoseKept k s t) : PoseKept k s (chartJudge k t) := by
  unfold Machine.chartJudge
  dsimp only
  refine PoseKept.setGov ?_ _
  exact ite h ((h.within (offer_within _ _)).within (noteChartOverrun_within k _))

theorem poseBlocks (k : Crane) (live : Bool) (s : State) : PoseKept k s (poseBlocks k live s) := by
  have judged : PoseKept k s (if s.mode == .operating && (s.lane k).state == .live
      then Machine.chartJudge k (Machine.overrunCheck k (Machine.judgePose k s)) else s) :=
    ite (judgePose k s).overrunCheck.chartJudge (refl k s)
  exact (((judged.within (windOnPose_within k _)).within (vaneOnPose_within k _ _ _)).within
    (bookingOnPose_within k _ _ _)).within (pendingCommitStep_within k _)

theorem judgedPose (k : Crane) (f : List Byte) (s : State) : PoseKept k s (judgedPose k f s) := by
  have numbered : PoseKept k s (seqStep k (poseIn f).seq s) := by
    unfold seqStep
    exact (ite (refl k s) ((refl k s).count k _)).within (setLane_within _ _ _)
  exact ((numbered.within (recordPose_within _ _ _)).within (advanceLane_within _ _ _ _)).trans (poseBlocks k _ _)

end PoseKept

theorem WindOnly.within {k : Crane} {s t u : State} {w : Touch} (h : WindOnly k s t) (h' : Within w t u)
    (winds : w.winds = false := by rfl) : WindOnly k s u :=
  h.trans (.of_winds (h'.winds winds))

theorem poseBlocks_windOnly (k : Crane) (live : Bool) (s : State) : WindOnly k s (poseBlocks k live s) := by
  have judged : WindOnly k s (if s.mode == .operating && (s.lane k).state == .live
      then chartJudge k (overrunCheck k (judgePose k s)) else s) := by
    split
    · exact (((WindOnly.refl k s).within (judgePose_within _ _)).within (overrunCheck_within _ _)).within (chartJudge_within _ _)
    · exact .refl k s
  have sampled (t : State) : WindOnly k t (windOnPose k t).2 := (LevelTold.windOnPose k t).others
  unfold poseBlocks
  dsimp only
  refine WindOnly.within (WindOnly.within ?_ (bookingOnPose_within k _ _ _)) (pendingCommitStep_within k _)
  exact (judged.trans (sampled _)).trans (LiftsKept.vaneOnPose_windOnly k _ _ _)

/-- A pose changes no Wind Monitor but that of its crane. -/
theorem judgedPose_windOnly (k : Crane) (f : List Byte) (s : State) : WindOnly k s (judgedPose k f s) := by
  have advanced : WindOnly k s (advancedPose k f s).2 :=
    (((WindOnly.refl k s).within (seqStep_within _ _ _)).within (recordPose_within _ _ _)).within (advanceLane_within _ _ _ _)
  exact advanced.trans (poseBlocks_windOnly k _ _)

/-! ### The frames a pose sends (R34, R42) -/

theorem judgedPose_poseRecord (k : Crane) (f : List Byte) (s : State) :
    (judgedPose k f s).pose k = some (poseRecord (s.pose k) (poseIn f) s.stamp) := by
  have kept : (acceptPose k f s).pose k = (judgedPose k f s).pose k := by
    rw [acceptPose_eq, pose_congr ((substituteStop_within _ _).poses rfl), pose_congr ((forwardPose_within _ _ _).poses rfl)]
  rw [← kept, acceptPose_pose]

/-- The status field takes of the state the lane, level, vane state, arbiter record, zones and bookings of its crane. -/
theorem forwardedPose_congr {s t : State} {k : Crane} (lane : t.lane k = s.lane k) (winds : t.winds = s.winds)
    (vanes : t.vanes = s.vanes) (air : t.air = s.air) (bookings : t.bookings = s.bookings) (p : Pose) (flags : Nat) :
    forwardedPose t k p flags = forwardedPose s k p flags := by
  have requested : vacateRequested t k = vacateRequested s k := by
    simp only [vacateRequested, isHeldBy, zone_congr air]
  have lift : openLift t k = openLift s k := by rw [openLift, bookings]; rfl
  unfold forwardedPose statusField
  rw [lane, wind_congr winds, vane_congr vanes, requested, arb_congr air, lift]

theorem substituteStop_of_silent {k : Crane} {s : State} (h : (s.lane k).cab = .silent) :
    substituteStop k s = count k .stopSubstitutes 1 (sendDemand k (.all 0) (.all false) (reasonFlags s k) true s) := if_pos h

theorem substituteStop_of_active {k : Crane} {s : State} (h : (s.lane k).cab ≠ .silent) : substituteStop k s = s := if_neg h

theorem Lane.substituted_clamps (l : Lane) : l.substituted.outSeq = (if l.cab = .silent then (l.outSeq + 1) % 256 else l.outSeq)
    ∧ l.substituted.clamps = (if l.cab = .silent then ⟨false, false, false⟩ else l.clamps)
    ∧ { l.substituted with clamps := l.clamps, outSeq := l.outSeq } = l := by
  unfold Lane.substituted
  split
  · exact ⟨rfl, rfl, rfl⟩
  · exact ⟨rfl, rfl, rfl⟩

/-- The way of the lane through its states leaves cab, Tcab, outgoing number and last clamp flags. -/
theorem poseLane_kept (k : Crane) (f : List Byte) (s : State) :
    (poseLane k f s).lastSeq = some (poseIn f).seq ∧ (poseLane k f s).cab = (s.lane k).cab ∧ (poseLane k f s).tcab = (s.lane k).tcab
      ∧ (poseLane k f s).outSeq = (s.lane k).outSeq ∧ (poseLane k f s).clamps = (s.lane k).clamps := by
  unfold poseLane Lane.advance
  split
  · split
    · exact ⟨rfl, rfl, rfl, rfl, rfl⟩
    · exact ⟨rfl, rfl, rfl, rfl, rfl⟩
  · exact ⟨rfl, rfl, rfl, rfl, rfl⟩
  · exact ⟨rfl, rfl, rfl, rfl, rfl⟩
  · exact ⟨rfl, rfl, rfl, rfl, rfl⟩

theorem judgedPose_lane_kept (k : Crane) (f : List Byte) (s : State) :
    ((judgedPose k f s).lane k).cab = (s.lane k).cab ∧ ((judgedPose k f s).lane k).outSeq = (s.lane k).outSeq
      ∧ ((judgedPose k f s).lane k).clamps = (s.lane k).clamps := by
  obtain ⟨-, cab, -, out, clamps⟩ := poseLane_kept k f s
  rcases judgedPose_lane k f s with h | h
  · rw [h]
    exact ⟨cab, out, clamps⟩
  · rw [h]
    exact ⟨cab, out, clamps⟩

/-- The state in which the pose has been forwarded. -/
def forwardedState (k : Crane) (f : List Byte) (s : State) : State := forwardPose k (poseIn f).flags (judgedPose k f s)

theorem forwardedState_within (k : Crane) (f : List Byte) (s : State) :
    Within { sent := true } (judgedPose k f s) (forwardedState k f s) := forwardPose_within k _ _

theorem forwardedState_sent (k : Crane) (f : List Byte) (s : State) : (forwardedState k f s).sent
    = s.sent ++ [⟨.c k, sealFrame (forwardedPose (judgedPose k f s) k (poseRecord (s.pose k) (poseIn f) s.stamp)
        (poseIn f).flags)⟩] := by
  rw [forwardedState, forwardPose_sent (judgedPose_poseRecord k f s), judgedPose_sent]

theorem forwardedState_lane (k : Crane) (f : List Byte) (s : State) :
    (forwardedState k f s).lane k = (judgedPose k f s).lane k := forwardPose_lane k _ _ k

theorem reasonFlags_congr {s t : State} {k : Crane} (mode : t.mode = s.mode) (control : (t.lane k).control = (s.lane k).control)
    (state : (t.lane k).state = (s.lane k).state) (vane : (t.vane k).state = (s.vane k).state) :
    reasonFlags t k = reasonFlags s k := by
  unfold reasonFlags
  rw [mode, control, state, vane]

theorem substituteStop_reasonFlags (k : Crane) (s : State) : reasonFlags (substituteStop k s) k = reasonFlags s k := by
  have lane : (substituteStop k s).lane k = (s.lane k).substituted := lane_of_lanes (substituteStop_lanes k s)
  have w := substituteStop_within k s
  refine reasonFlags_congr w.mode ?_ ?_ (by rw [vane_congr (w.vanes rfl)])
  · rw [lane, Lane.substituted_control]
  · rw [lane, Lane.substituted_state]

/-- The frames an accepted pose sends: the pose forwarded as the blocks left it, and a STOP while the cab is SILENT. -/
theorem acceptPose_sent (k : Crane) (f : List Byte) (s : State) :
    (acceptPose k f s).sent = s.sent
      ++ ⟨.c k, sealFrame (forwardedPose (judgedPose k f s) k (poseRecord (s.pose k) (poseIn f) s.stamp) (poseIn f).flags)⟩ ::
        (if (s.lane k).cab = .silent then [⟨.d k, sealFrame (outDemand k ⟨0, 0, 0⟩ ⟨false, false, false⟩
          (reasonFlags (acceptPose k f s) k) true (decide (((acceptPose k f s).vane k).state = .vaning)) (s.lane k).outSeq)⟩]
         else []) := by
  obtain ⟨cab, out, -⟩ := judgedPose_lane_kept k f s
  have accepted : acceptPose k f s = substituteStop k (forwardedState k f s) := rfl
  rw [accepted, substituteStop_reasonFlags, vane_congr ((substituteStop_within k _).vanes rfl)]
  split
  · rename_i silent
    have hushed : ((forwardedState k f s).lane k).cab = .silent := by rw [forwardedState_lane, cab, silent]
    rw [substituteStop_of_silent hushed, (count_within _ _ _ _).sent rfl, sendDemand_sent, forwardedState_sent,
      forwardedState_lane, out, List.append_assoc, List.singleton_append, beq_eq_decide]
    rfl
  · rename_i active
    have heard : ((forwardedState k f s).lane k).cab ≠ .silent := by rw [forwardedState_lane, cab]; exact active
    rw [substituteStop_of_active heard, forwardedState_sent]

theorem acceptPose_stops (k : Crane) (f : List Byte) (s : State) : (acceptPose k f s).counter k .stopSubstitutes
    = if (s.lane k).cab = .silent then (s.counter k .stopSubstitutes).add 1 else s.counter k .stopSubstitutes := by
  obtain ⟨cab, -⟩ := judgedPose_lane_kept k f s
  have stops : (forwardedState k f s).counter k .stopSubstitutes = s.counter k .stopSubstitutes :=
    ((PoseKept.judgedPose k f s).within (forwardedState_within k f s)).stops
  show (substituteStop k (forwardedState k f s)).counter k .stopSubstitutes = _
  split
  · rename_i silent
    have hushed : ((forwardedState k f s).lane k).cab = .silent := by rw [forwardedState_lane, cab, silent]
    rw [substituteStop_of_silent hushed, count_counter_self, counter_congr
      ((sendDemand_within k _ _ _ _ _).recorder.counters rfl), stops]
  · rename_i active
    have heard : ((forwardedState k f s).lane k).cab ≠ .silent := by rw [forwardedState_lane, cab]; exact active
    rw [substituteStop_of_active heard, stops]

/-- The state the blocks left differs from the one after the pose in its lane's clamps and outgoing number, in frames sent and in
counters. -/
theorem acceptPose_forwarded (k : Crane) (f : List Byte) (s : State) (p : Pose) (flags : Nat) :
    forwardedPose ((acceptPose k f s).setLane k
        { (acceptPose k f s).lane k with clamps := (s.lane k).clamps, outSeq := (s.lane k).outSeq }) k p flags
      = forwardedPose (judgedPose k f s) k p flags := by
  obtain ⟨-, out, clamps⟩ := judgedPose_lane_kept k f s
  obtain ⟨-, -, lane⟩ := Lane.substituted_clamps ((judgedPose k f s).lane k)
  have w : Within { lanes := true, sent := true, counters := true } (judgedPose k f s) (acceptPose k f s) :=
    (substituteStop_within k _).after (forwardedState_within k f s).mono
  have kept : { (acceptPose k f s).lane k with clamps := (s.lane k).clamps, outSeq := (s.lane k).outSeq }
      = (judgedPose k f s).lane k := by
    rw [acceptPose_lane, ← out, ← clamps]
    exact lane
  rw [kept]
  generalize acceptPose k f s = t at w ⊢
  generalize judgedPose k f s = u at w ⊢
  exact forwardedPose_congr (State.setLane_lane_self ..) (w.winds rfl) (w.vanes rfl) (w.air rfl) (w.bookings rfl) p flags

/-- What an accepted pose leaves of another crane. -/
theorem acceptPose_other {j k : Crane} (h : j ≠ k) (f : List Byte) (s : State) :
    (acceptPose k f s).pose j = s.pose j ∧ (acceptPose k f s).govRec j = s.govRec j ∧ (acceptPose k f s).wind j = s.wind j
      ∧ ((acceptPose k f s).lane j = s.lane j ∨ (acceptPose k f s).lane j = { s.lane j with control := .halted }) := by
  have w : Within { lanes := true, sent := true, counters := true } (judgedPose k f s) (acceptPose k f s) :=
    (substituteStop_within k _).after (forwardedState_within k f s).mono
  refine ⟨?_, ?_, ?_, ?_⟩
  · rw [pose_congr (acceptPose_poses k f s), State.setPose_pose_ne _ _ _ _ h]
  · rw [govRec_congr (w.gov rfl), (PoseKept.judgedPose k f s).gov j h]
  · rw [wind_congr (w.winds rfl), judgedPose_windOnly k f s j h]
  · rw [acceptPose_lane_other h]
    exact judgedPose_lane_other h f s

/-- Settles O26, by the state the blocks leave and what forwarding and substitution add to it. -/
theorem acceptedPoseIsRecordedAndForwarded : Obligations.AcceptedPoseIsRecordedAndForwarded := by
  intro k f s idle whole accepted
  obtain ⟨-, -, -, -, seq, cab, tcab⟩ := acceptPose_lane_kept k (plainBytes f) s
  obtain ⟨numbered, cabKept, tcabKept, -⟩ := poseLane_kept k (plainBytes f) s
  obtain ⟨silent, out, clamps⟩ := judgedPose_lane_kept k (plainBytes f) s
  obtain ⟨outSeq, flags, -⟩ := Lane.substituted_clamps ((judgedPose k (plainBytes f) s).lane k)
  refine ⟨_, exec_acceptedPose idle whole accepted, acceptPose_pose k _ s, seq.trans numbered, cab.trans cabKept,
    tcab.trans tcabKept, ⟨_, State.setLane_lane_self _ k _, rfl, ?_⟩, ?_, ?_, acceptPose_stops k _ s,
    fun j h => acceptPose_other h _ s, (acceptPose_within k _ s).frame⟩
  · rw [acceptPose_forwarded]
    exact acceptPose_sent k _ s
  · rw [acceptPose_lane, outSeq, silent, out]
  · rw [acceptPose_lane, flags, silent, clamps]

end Sys2Proof.Machine

/-! PROOFS. What the Motion Governor lets through (R40, R81, R82, R85) and the one demand frame an accepted demand sends (R32,
R38, R41). -/

namespace Sys2Proof.Machine

set_option Elab.async false

/-! ### One axis (R82, R85) -/

/-- A permitted speed other than zero stops within its distance, whatever the deceleration. -/
theorem stopDist_of_permittedSpeed_ne_zero {a : AxisDyn} {d : Int} (h : permittedSpeed a d ≠ 0) :
    (stopDist a (permittedSpeed a d) : Int) ≤ d := by
  by_cases hd : d ≤ 0
  · exact absurd (permittedSpeed_of_nonpos a hd) h
  · have stops : stopDist a (permittedSpeed a d) ≤ d.toNat := by
      rw [permittedSpeed_of_pos a (not_le.1 hd)] at h ⊢
      exact Nat.findGreatest_of_ne_zero (P := fun v => stopDist a v ≤ d.toNat) rfl h
    omega

theorem signed_natAbs (q : Int) (n : Nat) : (signed q n).natAbs = n := by
  unfold signed
  split
  · exact Int.natAbs_neg n
  · rfl

theorem signed_sign {q : Int} (n : Nat) : (0 < q → 0 ≤ signed q n) ∧ (q < 0 → signed q n ≤ 0) := by
  unfold signed
  split
  · exact ⟨fun _ => by omega, fun _ => by omega⟩
  · exact ⟨fun _ => by omega, fun _ => by omega⟩

/-- What an axis gives for a speed asked: no more than it, not against its sign, no more than the cap, and within the
boundary. -/
structure AxisResult.Governed (d : AxisDyn) (q : Int) (r : AxisResult) : Prop where
  asked : r.output.natAbs ≤ q.natAbs
  forward : 0 < q → 0 ≤ r.output
  backward : q < 0 → r.output ≤ 0
  cap : r.output.natAbs ≤ d.vcap
  barred : ∀ b, r.boundary = some b → b.dist = none → r.output = 0
  stops : ∀ b, r.boundary = some b → ∀ x, b.dist = some x → r.output ≠ 0 → (stopDist d r.output.natAbs : Int) ≤ x

theorem AxisResult.Governed.zero (d : AxisDyn) (q : Int) (p : Option Nat) (b : Option Boundary) :
    AxisResult.Governed d q ⟨0, p, b⟩ :=
  ⟨Nat.zero_le _, fun _ => le_rfl, fun _ => le_rfl, Nat.zero_le _, fun _ _ _ => rfl, fun _ _ _ _ h => absurd rfl h⟩

/-- The smaller of the speed asked, the cap and the speed permitted at the boundary. -/
theorem AxisResult.Governed.limited (d : AxisDyn) (q : Int) (b : Option Boundary) :
    AxisResult.Governed d q ⟨signed q (min (min q.natAbs d.vcap) (boundSpeed d b)), some (boundSpeed d b), b⟩ where
  asked := by rw [signed_natAbs]; omega
  forward := (signed_sign _).1
  backward := (signed_sign _).2
  cap := by rw [signed_natAbs]; omega
  barred bound at_ far := by
    have none_passes : boundSpeed d b = 0 := by
      rw [show b = some bound from at_, boundSpeed, far]
    rw [none_passes, Nat.min_zero]
    exact ite_self 0
  stops bound at_ x near moves := by
    have permitted : boundSpeed d b = permittedSpeed d x := by
      rw [show b = some bound from at_, boundSpeed, near]
    rw [← Int.natAbs_ne_zero, signed_natAbs, permitted] at moves
    rw [signed_natAbs, permitted]
    have below := stopDist_mono d (Nat.min_le_right (min q.natAbs d.vcap) (permittedSpeed d x))
    have stops := stopDist_of_permittedSpeed_ne_zero (a := d) (d := x) (by omega)
    omega

theorem evalAxis_governed (k : Crane) (p : Pose) (prof : Profile) (a : Axis) (q : Int) (s : State) :
    (evalAxis k p prof a q s).1.Governed (onAxis prof.dyn a) q := by
  unfold evalAxis
  dsimp only
  split
  · exact .zero ..
  split
  · exact .zero ..
  · exact .limited ..

/-! ### The three axes -/

theorem zeroDemand_govRec (k : Crane) (q : PerAxis Int) (s : State) : (zeroDemand k q s).2.govRec k
    = { s.govRec k with requested := q, output := .all 0, permitted := .all none, boundary := .all none } :=
  State.setGov_govRec_self ..

/-- On each axis an evaluated demand gives what the axis's own evaluation gave. -/
theorem evaluate_axis (k : Crane) (p : Pose) (prof : Profile) (q : PerAxis Int) (s : State) (a : Axis) :
    ∃ u, onAxis (evaluate k p prof q s).1.1 a = (evalAxis k p prof a (onAxis q a) u).1.output
      ∧ onAxis ((evaluate k p prof q s).2.govRec k).boundary a = (evalAxis k p prof a (onAxis q a) u).1.boundary := by
  unfold evaluate
  dsimp only
  rw [State.setGov_govRec_self]
  cases a with
  | slew => exact ⟨_, rfl, rfl⟩
  | trolley => exact ⟨_, rfl, rfl⟩
  | hoist => exact ⟨_, rfl, rfl⟩

theorem onAxis_clampFlags (q out : PerAxis Int) (a : Axis) :
    onAxis (clampFlags q out) a = true ↔ (onAxis out a).natAbs < (onAxis q a).natAbs := by
  cases a with
  | slew => exact decide_eq_true_iff
  | trolley => exact decide_eq_true_iff
  | hoist => exact decide_eq_true_iff

theorem govern_of_reason {k : Crane} {s : State} (h : (reasonFlags s k).any = true) (q : PerAxis Int) :
    govern k q s = zeroDemand k q s := if_pos h

theorem govern_of_clear {k : Crane} {s : State} (h : (reasonFlags s k).any = false) {p : Pose} {prof : Profile}
    (shown : s.pose k = some p) (known : s.profile k = some prof) (q : PerAxis Int) :
    govern k q s = evaluate k p prof q s := by
  unfold govern
  rw [if_neg (by simp [h]), shown, known]

/-- Settles O31, axis by axis. -/
theorem governedSpeedsStopBeforeTheirBoundary : Obligations.GovernedSpeedsStopBeforeTheirBoundary := by
  intro k q s
  refine ⟨fun held => ?_, fun clear p prof shown known a => ?_⟩
  · rw [govern_of_reason held]
    exact ⟨rfl, rfl⟩
  · rw [govern_of_clear clear shown known]
    obtain ⟨u, output, boundary⟩ := evaluate_axis k p prof q s a
    have governed := evalAxis_governed k p prof a (onAxis q a) u
    rw [output, boundary]
    exact ⟨governed.asked, governed.forward, governed.backward, governed.cap,
      output ▸ onAxis_clampFlags q (evaluate k p prof q s).1.1 a, fun b at_ => ⟨governed.barred b at_, governed.stops b at_⟩⟩

/-! ### An accepted demand (R32, R38, R39, R41) -/

/-- The record of the Motion Governor says what was asked and what was let through. -/
theorem govern_record (k : Crane) (q : PerAxis Int) (s : State) :
    ((govern k q s).2.govRec k).requested = q ∧ ((govern k q s).2.govRec k).output = (govern k q s).1.1 := by
  have zeroed : ((zeroDemand k q s).2.govRec k).requested = q
      ∧ ((zeroDemand k q s).2.govRec k).output = (zeroDemand k q s).1.1 := by
    rw [zeroDemand_govRec]
    exact ⟨rfl, rfl⟩
  unfold govern
  split
  · exact zeroed
  split
  · unfold evaluate
    dsimp only
    rw [State.setGov_govRec_self]
    exact ⟨rfl, rfl⟩
  · exact zeroed

theorem govern_govRec_ne {j k : Crane} (h : j ≠ k) (q : PerAxis Int) (s : State) :
    (govern k q s).2.govRec j = s.govRec j := by
  have zeroed : (zeroDemand k q s).2.govRec j = s.govRec j := State.setGov_govRec_ne _ _ _ _ h
  unfold govern
  split
  · exact zeroed
  split
  · unfold evaluate
    dsimp only
    have w (flags : PerAxis Bool) (bs : List (Option Boundary)) {t : State} (ht : Within { air := true } s t) :
        Within { air := true, counters := true } s (countClamps k flags (placeWait k bs t)) :=
      (countClamps_within _ _ _).after ((placeWait_within _ _ _).after ht.mono)
    rw [State.setGov_govRec_ne _ _ _ _ h]
    exact govRec_congr ((w _ _ ((evalAxis_within _ _ _ _ _ _).after ((evalAxis_within _ _ _ _ _ _).after
      (evalAxis_within _ _ _ _ _ _)))).gov rfl) j
  · exact zeroed

/-- The state in which the cab state and the booking step of a demand have been taken. -/
def demandedState (k : Crane) (f : List Byte) (s : State) : State := stepOnDemand k (demandIn f) (cabStep k s)

theorem acceptDemand_eq (k : Crane) (f : List Byte) (s : State) : acceptDemand k f s
    = reloadTimer k (govern k (demandIn f).speed (demandedState k f s)).1.1
        (sendDemand k (govern k (demandIn f).speed (demandedState k f s)).1.1
          (govern k (demandIn f).speed (demandedState k f s)).1.2 (reasonFlags (demandedState k f s) k) false
          (govern k (demandIn f).speed (demandedState k f s)).2) := rfl

/-- The lane of a demand when its booking step has been taken. -/
def Lane.demanded (l : Lane) (expiry : Nat) (d : DemandIn) (answer : Answer) : Lane :=
  { l with cab := .active, tcab := some expiry }.stepped d answer

theorem demandedState_lanes (k : Crane) (f : List Byte) (s : State) : (demandedState k f s).lanes
    = (s.setLane k ((s.lane k).demanded (s.now + tcabOf s k) (demandIn f)
        (bookingStep k (demandIn f).step (demandIn f).booking (cabStep k s)).1)).lanes := by
  have stepped := stepOnDemand_lanes k (demandIn f) (cabStep k s)
  rw [lane_of_lanes (cabStep_lanes k s)] at stepped
  exact lanes_written_twice (cabStep_lanes k s) stepped

theorem acceptDemand_lanes (k : Crane) (f : List Byte) (s : State) : (acceptDemand k f s).lanes
    = (s.setLane k { (demandedState k f s).lane k with
        outSeq := (((demandedState k f s).lane k).outSeq + 1) % 256,
        clamps := (govern k (demandIn f).speed (demandedState k f s)).1.2 }).lanes := by
  have governed := (govern_within k (demandIn f).speed (demandedState k f s)).lanes rfl
  rw [acceptDemand_eq, (reloadTimer_within _ _ _).lanes rfl]
  refine lanes_written_twice (s := s) (demandedState_lanes k f s) ?_
  rw [sendDemand_lanes, State.setLane_lanes, State.setLane_lanes, governed, lane_congr governed]

theorem Lane.demanded_kept (l : Lane) (expiry : Nat) (d : DemandIn) (answer : Answer) :
    (l.demanded expiry d answer).cab = .active ∧ (l.demanded expiry d answer).tcab = some expiry
      ∧ (l.demanded expiry d answer).outSeq = l.outSeq ∧ (l.demanded expiry d answer).state = l.state
      ∧ (l.demanded expiry d answer).control = l.control := by
  unfold Lane.demanded Lane.stepped
  split
  · exact ⟨rfl, rfl, rfl, rfl, rfl⟩
  · exact ⟨rfl, rfl, rfl, rfl, rfl⟩

theorem Lane.demanded_of_repeated {l : Lane} {d : DemandIn} (h : d.step = 0 ∨ l.lastStep = some d.stepNumber) (expiry : Nat)
    (answer : Answer) : l.demanded expiry d answer = { l with cab := .active, tcab := some expiry } := if_pos h

theorem Lane.demanded_of_new {l : Lane} {d : DemandIn} (h : ¬(d.step = 0 ∨ l.lastStep = some d.stepNumber)) (expiry : Nat)
    (answer : Answer) : l.demanded expiry d answer = { l with
      cab := .active, tcab := some expiry, lastStep := some d.stepNumber, lastAnswer := some (answer, d.booking) } := if_neg h

theorem acceptDemand_reasonFlags (k : Crane) (f : List Byte) (s : State) :
    reasonFlags (acceptDemand k f s) k = reasonFlags (demandedState k f s) k := by
  have lane := lane_of_lanes (acceptDemand_lanes k f s)
  have w : Within Touch.governed (demandedState k f s) (govern k (demandIn f).speed (demandedState k f s)).2 :=
    govern_within k _ _
  have sent : Within { lanes := true, air := true, gov := true, sent := true, counters := true } (demandedState k f s)
      (acceptDemand k f s) := by
    rw [acceptDemand_eq]
    exact (reloadTimer_within _ _ _).after ((sendDemand_within _ _ _ _ _ _).after w.mono)
  refine reasonFlags_congr sent.mode ?_ ?_ (by rw [vane_congr (sent.vanes rfl)])
  · rw [lane]
  · rw [lane]

/-- The Motion Governor's record after a demand is the one its evaluation left. -/
theorem acceptDemand_govRec (k j : Crane) (f : List Byte) (s : State) : (acceptDemand k f s).govRec j
    = (govern k (demandIn f).speed (demandedState k f s)).2.govRec j := by
  rw [acceptDemand_eq, govRec_congr ((reloadTimer_within _ _ _).gov rfl),
    govRec_congr ((sendDemand_within _ _ _ _ _ _).gov rfl)]

theorem acceptDemand_govRec_ne {j k : Crane} (h : j ≠ k) (f : List Byte) (s : State) :
    (acceptDemand k f s).govRec j = s.govRec j := by
  have w : Within { lanes := true, air := true, vanes := true, bookings := true } s (demandedState k f s) :=
    (stepOnDemand_within _ _ _).after (cabStep_within _ _).mono
  rw [acceptDemand_govRec, govern_govRec_ne h, govRec_congr (w.gov rfl)]

theorem acceptDemand_sent (k : Crane) (f : List Byte) (s : State) : (acceptDemand k f s).sent = s.sent
    ++ [⟨.d k, sealFrame (outDemand k ((acceptDemand k f s).govRec k).output ((acceptDemand k f s).lane k).clamps
      (reasonFlags (acceptDemand k f s) k) false (decide (((acceptDemand k f s).vane k).state = .vaning))
      (s.lane k).outSeq)⟩] := by
  have lane := lane_of_lanes (acceptDemand_lanes k f s)
  have outSeq : ((demandedState k f s).lane k).outSeq = (s.lane k).outSeq := by
    rw [lane_of_lanes (demandedState_lanes k f s)]
    exact (Lane.demanded_kept _ _ _ _).2.2.1
  have step : Within { lanes := true, air := true, vanes := true, bookings := true } s (demandedState k f s) :=
    (stepOnDemand_within _ _ _).after (cabStep_within _ _).mono
  have governed := govern_within k (demandIn f).speed (demandedState k f s)
  have vane : (acceptDemand k f s).vane k = (govern k (demandIn f).speed (demandedState k f s)).2.vane k := by
    rw [acceptDemand_eq, vane_congr ((reloadTimer_within _ _ _).vanes rfl),
      vane_congr ((sendDemand_within _ _ _ _ _ _).vanes rfl)]
  rw [acceptDemand_reasonFlags, acceptDemand_govRec, (govern_record _ _ _).2, vane, lane, ← beq_eq_decide, ← outSeq,
    ← lane_congr (governed.lanes rfl), ← step.sent rfl, ← governed.sent rfl, acceptDemand_eq,
    (reloadTimer_within _ _ _).sent rfl, sendDemand_sent]

theorem stepOnDemand_of_repeated {k : Crane} {d : DemandIn} {s : State}
    (h : d.step = 0 ∨ (s.lane k).lastStep = some d.stepNumber) : stepOnDemand k d s = s := if_pos h

theorem acceptDemand_bookings (k : Crane) (f : List Byte) (s : State) :
    (acceptDemand k f s).bookings = (demandedState k f s).bookings := by
  rw [acceptDemand_eq, (reloadTimer_within _ _ _).bookings rfl, (sendDemand_within _ _ _ _ _ _).bookings rfl,
    (govern_within k _ _).bookings rfl]

/-- Settles O30, by the lane, the record and the frame the demand leaves. -/
theorem acceptedDemandSendsOneFrame : Obligations.AcceptedDemandSendsOneFrame := by
  intro k f s idle whole accepted
  have lane := lane_of_lanes (acceptDemand_lanes k (plainBytes f) s)
  have demanded := lane_of_lanes (demandedState_lanes k (plainBytes f) s)
  obtain ⟨cab, tcab, outSeq, state, control⟩ := Lane.demanded_kept (s.lane k) (s.now + tcabOf s k) (demandIn (plainBytes f))
    (bookingStep k (demandIn (plainBytes f)).step (demandIn (plainBytes f)).booking (cabStep k s)).1
  have taken : exec (.demandFrame k f) s = .next (acceptDemand k (plainBytes f) s) := by
    rw [exec_demandFrame idle whole, judgeOnC, if_pos accepted]
  refine ⟨_, taken, acceptDemand_sent k _ s, ?_, ?_, ?_, ?_, ?_, ?_, ?_, ?_, ?_, ?_, (acceptDemand_within k _ s).frame⟩
  · rw [acceptDemand_govRec, (govern_record _ _ _).1]
  · intro held
    rw [acceptDemand_reasonFlags] at held
    rw [acceptDemand_govRec, lane, govern_of_reason held, zeroDemand_govRec]
    exact ⟨rfl, rfl, rfl, rfl⟩
  · rw [lane, demanded]
    exact cab
  · rw [lane, demanded]
    exact tcab
  · rw [lane, demanded]
    exact congrArg (fun n => (n + 1) % 256) outSeq
  · rw [lane, demanded]
    exact state
  · rw [lane, demanded]
    exact control
  · intro repeated
    have same : (cabStep k s).lane k = _ := lane_of_lanes (cabStep_lanes k s)
    rw [lane, demanded, Lane.demanded_of_repeated repeated, acceptDemand_bookings, demandedState,
      stepOnDemand_of_repeated (by rw [same]; exact repeated)]
    exact ⟨rfl, rfl, (cabStep_within k s).bookings rfl⟩
  · intro new
    rw [lane, demanded, Lane.demanded_of_new new]
    exact ⟨rfl, rfl⟩
  · intro j h
    refine ⟨?_, acceptDemand_govRec_ne h _ s⟩
    exact lane_of_lanes_ne (acceptDemand_lanes k _ s) h

end Sys2Proof.Machine

/-! PROOFS. What the Zone Arbiter's operations do to the records of the cranes (R53 to R56), what a fold over the zones does to
one of them, and the stale and lost lanes (R29 to R31, R64, R65). -/

namespace Sys2Proof.Machine

set_option Elab.async false

/-! ### Crane records of the Zone Arbiter under the operations on zones -/

@[simp] theorem markVacate_arb (z : Zone) (c : VacateCause) (s : State) (j : Crane) :
    (markVacate z c s).arb j = s.arb j := by
  unfold markVacate
  split
  · rfl
  split
  · rfl
  · rw [arb_congr (offer_air _ _), State.setZone_arb]

@[simp] theorem clearIdleMark_arb (z : Zone) (s : State) (j : Crane) : (clearIdleMark z s).arb j = s.arb j := by
  unfold clearIdleMark
  dsimp only
  split
  · rfl
  · rfl

@[simp] theorem judgeLimit_arb (z : Zone) (s : State) (j : Crane) : (judgeLimit z s).arb j = s.arb j := by
  unfold judgeLimit
  split
  · exact markVacate_arb z _ s j
  · rfl

@[simp] theorem refreshEntry_arb (c : Crane) (z : Zone) (s : State) (j : Crane) : (refreshEntry c z s).arb j = s.arb j := rfl

@[simp] theorem removeEntry_arb (c : Crane) (z : Zone) (s : State) (j : Crane) : (removeEntry c z s).arb j = s.arb j :=
  clearIdleMark_arb z _ j

@[simp] theorem settleEntry_arb (c : Crane) (z : Zone) (s : State) (j : Crane) : (settleEntry c z s).arb j = s.arb j := by
  unfold settleEntry
  split
  · rfl
  · exact removeEntry_arb c z s j

@[simp] theorem joinQueue_arb (c : Crane) (z : Zone) (s : State) (j : Crane) : (joinQueue c z s).arb j = s.arb j := by
  unfold joinQueue
  split
  · rfl
  · exact judgeLimit_arb z _ j

@[simp] theorem rejudgeEntries_arb (c : Crane) (s : State) (j : Crane) : (rejudgeEntries c s).arb j = s.arb j := by
  unfold rejudgeEntries
  dsimp only
  split
  · split
    · rfl
    · rfl
  · split
    · rfl
    · rfl

theorem withdrawWait_arb_self (c : Crane) (s : State) : (withdrawWait c s).arb c = { s.arb c with motionWait := none } := by
  unfold withdrawWait
  split
  · rename_i h
    rw [← h]
  · rw [settleEntry_arb, State.setArb_arb_self]

theorem withdrawReservation_arb_self (c : Crane) (s : State) :
    (withdrawReservation c s).arb c = { s.arb c with reservation := none } := by
  unfold withdrawReservation
  split
  · rename_i h
    rw [← h]
  · rw [settleEntry_arb, State.setArb_arb_self]

/-! ### Waits only fall away -/

/-- From `s` to `t` of a crane's record no more than its motion wait and reservation change, and a motion wait is at most
withdrawn. -/
structure WaitsFall (s t : State) : Prop where
  frame : ∀ j, t.arb j = { s.arb j with motionWait := (t.arb j).motionWait, reservation := (t.arb j).reservation }
  wait : ∀ j, (t.arb j).motionWait = (s.arb j).motionWait ∨ (t.arb j).motionWait = none

namespace WaitsFall

variable {s t u : State}

theorem of_arb (h : ∀ j, t.arb j = s.arb j) : WaitsFall s t := ⟨fun j => by rw [h], fun j => .inl (by rw [h])⟩

theorem refl (s : State) : WaitsFall s s := of_arb fun _ => rfl

theorem trans (h : WaitsFall s t) (h' : WaitsFall t u) : WaitsFall s u where
  frame j := (h'.frame j).trans (by rw [h.frame j])
  wait j := by
    rcases h'.wait j with same | gone
    · rw [same]
      exact h.wait j
    · exact .inr gone

theorem within {w : Touch} (h : WaitsFall s t) (h' : Within w t u) (air : w.air = false := by rfl) : WaitsFall s u :=
  h.trans (of_arb fun j => arb_congr (h'.air air) j)

theorem setArb (c : Crane) (a : ArbRec)
    (frame : a = { s.arb c with motionWait := a.motionWait, reservation := a.reservation })
    (wait : a.motionWait = (s.arb c).motionWait ∨ a.motionWait = none) : WaitsFall s (s.setArb c a) where
  frame j := by
    rw [State.setArb_arb]
    split
    · rename_i h
      rw [h]
      exact frame
    · rfl
  wait j := by
    rw [State.setArb_arb]
    split
    · rename_i h
      rw [h]
      exact wait
    · exact .inl rfl

theorem withdrawReservation (c : Crane) (s : State) : WaitsFall s (withdrawReservation c s) := by
  unfold Machine.withdrawReservation
  split
  · exact refl s
  · have cleared : WaitsFall s (s.setArb c { s.arb c with reservation := none }) := setArb c _ rfl (.inl rfl)
    exact cleared.trans (of_arb fun j => settleEntry_arb c _ _ j)

theorem dropEntry (c : Crane) (z : Zone) (s : State) : WaitsFall s (dropEntry c z s) := by
  refine (setArb c _ ?_ ?_).trans (of_arb fun j => removeEntry_arb c z _ j)
  · split
    · split
      · rfl
      · rfl
    · split
      · rfl
      · rfl
  · split
    · split
      · exact .inr rfl
      · exact .inl rfl
    · split
      · exact .inr rfl
      · exact .inl rfl

theorem placeReservation (k : Crane) (s : State) : WaitsFall s (placeReservation k s) := by
  unfold Machine.placeReservation
  split
  · exact withdrawReservation k s
  · rename_i z _
    refine WaitsFall.trans ?_ (of_arb fun j => joinQueue_arb k _ _ j)
    have kept : WaitsFall s (if reservesAt s k z then s else Machine.withdrawReservation k s) := by
      split
      · exact refl s
      · exact withdrawReservation k s
    exact kept.trans (setArb k _ rfl (.inl rfl))

theorem grant (c : Crane) (z : Zone) (s : State) : WaitsFall s (grant c z s) := by
  have taken : WaitsFall s (acquire c z (kindFor (Machine.dropEntry c z s) c z) (Machine.dropEntry c z s)) :=
    (dropEntry c z s).trans (of_arb fun _ => rfl)
  unfold Machine.grant
  dsimp only
  refine WaitsFall.trans ?_ (of_arb fun j => judgeLimit_arb z _ j)
  split
  · exact taken.trans (placeReservation c _)
  · exact taken

theorem offerGrant (z : Zone) (es : List Entry) (s : State) : WaitsFall s (offerGrant z es s) := by
  induction es generalizing s with
  | nil => exact refl s
  | cons e es ih =>
    unfold Machine.offerGrant
    split
    · exact grant e.crane z s
    · exact ((dropEntry e.crane z s).within (offer_within _ _)).trans (ih _)

theorem release (z : Zone) (s : State) : WaitsFall s (release z s) := by
  have freed : WaitsFall s (s.setZone z { s.zone z with st := .free, vacate := false }) := of_arb fun _ => rfl
  unfold Machine.release
  dsimp only
  split
  · rename_i c _
    refine WaitsFall.trans ?_ (of_arb fun j => arb_congr ((checkVaning_within _ _).air rfl) j)
    exact (freed.trans (dropEntry c z _)).trans (of_arb fun _ => rfl)
  · exact freed.trans (offerGrant z _ _)

theorem letGo (k : Crane) (keep : List Zone) (s : State) : WaitsFall s (letGo k keep s) := by
  refine foldl_keeps (P := WaitsFall s) (fun t z ht => ?_) _ _ (refl s)
  unfold letGoZone
  split
  · split
    · exact ht.trans (of_arb fun j => (judgeLimit_arb z _ j).trans rfl)
    · exact ht.trans (release z t)
  · exact ht

theorem giveUp (k : Crane) (s : State) : WaitsFall s (giveUp k s) :=
  ((letGo k [] s).trans (withdrawReservation k _)).trans (of_arb fun j => rejudgeEntries_arb k _ j)

theorem suspend (k : Crane) (why : SuspendReason) (s : State) : WaitsFall s (suspend k why s) := by
  cases h : activeBooking s k with
  | none => rw [suspend_of_none h]; exact refl s
  | some b =>
    rw [suspend_of_active h]
    exact (((refl s).within (updateBooking_within _ _ _)).trans (giveUp k _)).within (reportBooking_within _ _)

end WaitsFall

/-! ### One zone of a fold over the zones -/

theorem mem_allZones (z : Zone) : z ∈ allZones := List.mem_finRange z

/-- What a fold over distinct items reads of item a is what its step at a makes of it, when the steps at the other items leave
that reading; `I` is what every step keeps. -/
theorem foldl_at {α β : Type} {l : List α} (nodup : l.Nodup) {a : α} (mem : a ∈ l) {f : State → α → State} {I : State → Prop}
    {read : State → β} {s : State} (keep : ∀ t b, I t → I (f t b)) (other : ∀ t b, I t → b ≠ a → read (f t b) = read t)
    (hs : I s) : ∃ t, I t ∧ read t = read s ∧ read (l.foldl f s) = read (f t a) := by
  obtain ⟨before, after, split⟩ := List.append_of_mem mem
  have distinct : (before ++ a :: after).Nodup := split ▸ nodup
  have beforeNe : ∀ b ∈ before, b ≠ a := fun b hb => by
    rintro rfl
    exact (List.nodup_append.1 distinct).2.2 _ hb _ List.mem_cons_self rfl
  have afterNe : ∀ b ∈ after, b ≠ a := fun b hb => by
    rintro rfl
    exact (List.nodup_cons.1 (List.nodup_append.1 distinct).2.1).1 hb
  have passes (l : List α) (ne : ∀ b ∈ l, b ≠ a) : ∀ t, I t → I (l.foldl f t) ∧ read (l.foldl f t) = read t := by
    induction l with
    | nil => exact fun t ht => ⟨ht, rfl⟩
    | cons b l ih =>
      intro t ht
      obtain ⟨kept, same⟩ := ih (fun x hx => ne x (List.mem_cons_of_mem _ hx)) _ (keep t b ht)
      exact ⟨kept, same.trans (other t b ht (ne b List.mem_cons_self))⟩
  obtain ⟨kept, same⟩ := passes before beforeNe s hs
  refine ⟨before.foldl f s, kept, same, ?_⟩
  rw [split, List.foldl_append, List.foldl_cons]
  exact (passes after afterNe _ (keep _ a kept)).2

/-- What a fold over the zones reads of zone z. -/
theorem foldl_zones_at {β : Type} {f : State → Zone → State} {I : State → Prop} {read : State → β} {z : Zone} {s : State}
    (keep : ∀ t y, I t → I (f t y)) (other : ∀ t y, I t → y ≠ z → read (f t y) = read t) (hs : I s) :
    ∃ t, I t ∧ read t = read s ∧ read (allZones.foldl f s) = read (f t z) :=
  foldl_at allZones_nodup (mem_allZones z) keep other hs

/-- The same for a fold of which nothing but the reading at z matters. -/
theorem foldl_zones_read {β : Type} {f : State → Zone → State} {read : State → β} {z : Zone} (s : State)
    (other : ∀ t y, y ≠ z → read (f t y) = read t) :
    ∃ t, read t = read s ∧ read (allZones.foldl f s) = read (f t z) := by
  obtain ⟨t, -, same, at_⟩ := foldl_zones_at (I := fun _ => True) (s := s) (fun _ _ h => h) (fun t y _ => other t y) trivial
  exact ⟨t, same, at_⟩

/-! ### Freezing and widening (R64, R65) -/

/-- What freezing makes of a zone's state: a hold of kind MOTION or BOOKING of crane k becomes FROZEN (R64). -/
def ZoneState.frozenBy (k : Crane) : ZoneState → ZoneState
  | .held j h t => if j = k ∧ (h = .motion ∨ h = .booking) then .held j .frozen t else .held j h t
  | .swept j t => .swept j t
  | .free => .free

theorem freezeZone_zone_ne (k : Crane) (s : State) {y z : Zone} (h : y ≠ z) : (freezeZone k s y).zone z = s.zone z := by
  unfold freezeZone
  split
  · exact State.setZone_zone_ne _ _ _ _ h.symm
  · rfl

theorem freezeZone_zone_self (k : Crane) (s : State) (z : Zone) :
    (freezeZone k s z).zone z = { s.zone z with st := (s.zone z).st.frozenBy k } := by
  unfold freezeZone isHeldBy setKind ZoneRec.heldBy ZoneRec.kind ZoneRec.withKind ZoneState.frozenBy
  cases h : (s.zone z).st with
  | free => simp [← h]
  | swept j t => simp [← h]
  | held j kind t =>
    by_cases hit : j = k ∧ (kind = .motion ∨ kind = .booking)
    · obtain ⟨rfl, which⟩ := hit
      simp [which]
    · simp [hit, ← h]

theorem freezeZones_zone (k : Crane) (s : State) (z : Zone) :
    (allZones.foldl (freezeZone k) s).zone z = { s.zone z with st := (s.zone z).st.frozenBy k } := by
  obtain ⟨t, same, at_⟩ := foldl_zones_read (read := fun t => t.zone z) (f := freezeZone k) s
    fun t y h => freezeZone_zone_ne k t h
  rw [at_, freezeZone_zone_self, same]

theorem freeze_st (k : Crane) (s : State) (z : Zone) : ((freeze k s).zone z).st = (s.zone z).st.frozenBy k := by
  rw [freeze, withdrawWait_st, freezeZones_zone]

/-- Widening takes FREE zones alone, as FROZEN holds. -/
theorem widen_st (k : Crane) (s : State) (z : Zone) : ((widen k s).zone z).st = (s.zone z).st
    ∨ (s.zone z).st = .free ∧ ((widen k s).zone z).st = .held k .frozen s.now := by
  have step (t : State) : ((widenZone k (widenedSet s k) t z).zone z).st = (t.zone z).st
      ∨ (t.zone z).st = .free ∧ ((widenZone k (widenedSet s k) t z).zone z).st = .held k .frozen t.now := by
    unfold widenZone
    split
    · exact .inl rfl
    split
    · rename_i untaken
      split
      · exact .inr ⟨st_free_of_holder untaken, acquire_st_self k z _ t⟩
      · exact .inl rfl
    · split
      · exact .inl rfl
      · exact .inl (by rw [zone_congr (offer_air _ _)])
  have other (t : State) (y : Zone) (h : y ≠ z) : ((widenZone k (widenedSet s k) t y).zone z).st = (t.zone z).st := by
    unfold widenZone
    split
    · rfl
    split
    · split
      · exact acquire_st_ne _ _ _ _ h.symm
      · rfl
    · split
      · rfl
      · rw [zone_congr (offer_air _ _)]
  obtain ⟨t, now, same, at_⟩ := foldl_zones_at (f := widenZone k (widenedSet s k)) (I := fun t => t.now = s.now)
    (read := fun t => (t.zone z).st) (s := s) (fun t y ht => (widenZone_within k _ t y).now.trans ht)
    (fun t y _ h => other t y h) rfl
  rw [widen, at_, ← same, ← now]
  exact step t

/-- Crane k has no hold of kind BOOKING. -/
def NoBookingHold (k : Crane) (s : State) : Prop := ∀ z taken, (s.zone z).st ≠ .held k .booking taken

theorem letGo_of_noBookingHold {k : Crane} {s : State} (h : NoBookingHold k s) (keep : List Zone) : letGo k keep s = s := by
  refine foldl_keeps (P := fun t => t = s) (fun t z ht => ?_) _ _ rfl
  subst ht
  unfold letGoZone
  refine if_neg fun ⟨held, kind, _⟩ => ?_
  obtain ⟨kind', taken, at_⟩ := isHeldBy_iff.1 held
  rw [ZoneRec.kind, at_] at kind
  cases kind
  exact h z taken at_

/-- The suspension of a lift without BOOKING holds leaves every zone with its holder. -/
theorem suspend_st_of_noBookingHold {k : Crane} {s : State} (h : NoBookingHold k s) (why : SuspendReason) (z : Zone) :
    ((suspend k why s).zone z).st = (s.zone z).st := by
  cases active : activeBooking s k with
  | none => rw [suspend_of_none active]
  | some b =>
    have same : NoBookingHold k (updateBooking b.id (suspendedRecord s b.overtime why) s) := h
    rw [suspend_of_active active, zone_congr ((reportBooking_within _ _).air rfl), giveUp, rejudgeEntries_st,
      withdrawReservation_st, letGo_of_noBookingHold same]
    rfl

/-- A suspended lift has its record: SUSPENDED, or LAPSED when its OVERTIME flag is set, with the reason (R145, R146). -/
theorem suspend_record {s : State} {k : Crane} {b : Booking} (h : activeBooking s k = some b) (why : SuspendReason) :
    ∃ b' ∈ (suspend k why s).bookings, b'.id = b.id ∧ b'.state = (if b.overtime = true then .lapsed else .suspended)
      ∧ b'.reason = some why ∧ b'.suspensions = min 255 (b.suspensions + 1) := by
  refine ⟨suspendedRecord s b.overtime why b, ?_, ?_⟩
  · rw [suspend_bookings_of_active h]
    exact List.mem_map.2 ⟨b, (activeBooking_eq_some h).1, if_pos (beq_self_eq_true _)⟩
  · unfold suspendedRecord
    dsimp only
    split
    · exact ⟨rfl, rfl, rfl, rfl⟩
    · exact ⟨rfl, rfl, rfl, rfl⟩

theorem activeBooking_congr {s t : State} (h : t.bookings = s.bookings) (k : Crane) :
    activeBooking t k = activeBooking s k := by
  unfold activeBooking
  rw [h]

end Sys2Proof.Machine

/-! PROOFS. The lanes' expiries (R29 to R33, R64, R65) and HALT and RELEASE CRANE (R35 to R37, R145 to R147). -/

namespace Sys2Proof.Machine

set_option Elab.async false

/-! ### Frames of commands that move the time -/

/-- A frame of a command that first moves the timebase. -/
theorem Within.frame_waited {w : Touch} {s t : State} {x : Nat} (h : Within w (s.waitUntil x) t) :
    t = { s with
      now := t.now
      lanes := bif w.lanes then t.lanes else s.lanes, poses := bif w.poses then t.poses else s.poses
      site := bif w.site then t.site else s.site, air := bif w.air then t.air else s.air
      access := bif w.access then t.access else s.access, gov := bif w.gov then t.gov else s.gov
      winds := bif w.winds then t.winds else s.winds, vanes := bif w.vanes then t.vanes else s.vanes
      bookings := bif w.bookings then t.bookings else s.bookings, mgmt := bif w.mgmt then t.mgmt else s.mgmt
      sent := bif w.sent then t.sent else s.sent, recorder := t.recorder } :=
  h.frame.trans (by rw [h.now]; rfl)

/-! ### What leaves the Capture Buffer as it stands (R159) -/

/-- From `s` to `t` no trigger was taken. -/
structure CaptureKept (s t : State) : Prop where
  capture : t.recorder.capture = s.recorder.capture
  missed : t.recorder.missed = s.recorder.missed

namespace CaptureKept

variable {s t u : State}

theorem of_recorder (h : t.recorder = s.recorder) : CaptureKept s t := ⟨by rw [h], by rw [h]⟩

theorem refl (s : State) : CaptureKept s s := of_recorder rfl

theorem trans (h : CaptureKept s t) (h' : CaptureKept t u) : CaptureKept s u :=
  ⟨h'.capture.trans h.capture, h'.missed.trans h.missed⟩

theorem offer (h : CaptureKept s t) (o : Offer) : CaptureKept s (offer o t) := by
  refine h.trans ?_
  rw [offer_frame]
  exact ⟨rfl, rfl⟩

theorem ite {c : Prop} [Decidable c] (ht : CaptureKept s t) (hu : CaptureKept s u) : CaptureKept s (if c then t else u) := by
  split
  · exact ht
  · exact hu

theorem setZone (h : CaptureKept s t) (z : Zone) (r : ZoneRec) : CaptureKept s (t.setZone z r) := h.trans (of_recorder rfl)

theorem setArb (h : CaptureKept s t) (c : Crane) (a : ArbRec) : CaptureKept s (t.setArb c a) := h.trans (of_recorder rfl)

theorem setLane (h : CaptureKept s t) (k : Crane) (l : Lane) : CaptureKept s (t.setLane k l) := h.trans (of_recorder rfl)

theorem setVane (h : CaptureKept s t) (k : Crane) (v : VaneRec) : CaptureKept s (t.setVane k v) := h.trans (of_recorder rfl)

theorem markVacate (z : Zone) (c : VacateCause) (s : State) : CaptureKept s (markVacate z c s) := by
  unfold Machine.markVacate
  split
  · exact refl s
  · exact ite (refl s) (((refl s).setZone z _).offer _)

theorem judgeLimit (h : CaptureKept s t) (z : Zone) : CaptureKept s (judgeLimit z t) :=
  ite (h.trans (markVacate z _ t)) h

theorem clearIdleMark (h : CaptureKept s t) (z : Zone) : CaptureKept s (clearIdleMark z t) :=
  ite (h.setZone z _) h

theorem refreshEntry (h : CaptureKept s t) (c : Crane) (z : Zone) : CaptureKept s (refreshEntry c z t) :=
  h.setZone z _

theorem removeEntry (h : CaptureKept s t) (c : Crane) (z : Zone) : CaptureKept s (removeEntry c z t) :=
  (h.setZone z _).clearIdleMark z

theorem settleEntry (h : CaptureKept s t) (c : Crane) (z : Zone) : CaptureKept s (settleEntry c z t) :=
  ite (h.refreshEntry c z) (h.removeEntry c z)

theorem joinQueue (h : CaptureKept s t) (c : Crane) (z : Zone) : CaptureKept s (joinQueue c z t) :=
  ite (h.refreshEntry c z) ((h.setZone z _).judgeLimit z)

theorem withdrawWait (h : CaptureKept s t) (c : Crane) : CaptureKept s (withdrawWait c t) := by
  unfold Machine.withdrawWait
  split
  · exact h
  · exact (h.setArb c _).settleEntry c _

theorem withdrawReservation (h : CaptureKept s t) (c : Crane) : CaptureKept s (withdrawReservation c t) := by
  unfold Machine.withdrawReservation
  split
  · exact h
  · exact (h.setArb c _).settleEntry c _

theorem rejudgeEntries (h : CaptureKept s t) (c : Crane) : CaptureKept s (rejudgeEntries c t) := by
  unfold Machine.rejudgeEntries
  dsimp only
  split
  · split
    · exact h
    · exact h.refreshEntry c _
  · split
    · exact h.refreshEntry c _
    · exact (h.refreshEntry c _).refreshEntry c _

theorem dropEntry (h : CaptureKept s t) (c : Crane) (z : Zone) : CaptureKept s (dropEntry c z t) :=
  (h.setArb c _).removeEntry c z

theorem placeReservation (h : CaptureKept s t) (k : Crane) : CaptureKept s (placeReservation k t) := by
  unfold Machine.placeReservation
  split
  · exact h.withdrawReservation k
  · exact ((ite h (h.withdrawReservation k)).setArb k _).joinQueue k _

theorem grant (h : CaptureKept s t) (c : Crane) (z : Zone) : CaptureKept s (grant c z t) := by
  have taken : CaptureKept s (acquire c z (kindFor (Machine.dropEntry c z t) c z) (Machine.dropEntry c z t)) :=
    (h.dropEntry c z).trans (of_recorder rfl)
  unfold Machine.grant
  exact (ite (taken.placeReservation c) taken).judgeLimit z

theorem offerGrant (h : CaptureKept s t) (z : Zone) (es : List Entry) : CaptureKept s (offerGrant z es t) := by
  induction es generalizing t with
  | nil => exact h
  | cons e es ih => exact ite (h.grant e.crane z) (ih ((h.dropEntry e.crane z).offer _))

theorem checkVaning (h : CaptureKept s t) (c : Crane) : CaptureKept s (checkVaning c t) := by
  refine ite ?_ h
  unfold setVaneRec
  exact ite (h.setVane c _) ((h.setVane c _).offer _)

theorem release (h : CaptureKept s t) (z : Zone) : CaptureKept s (release z t) := by
  have freed : CaptureKept s (t.setZone z { t.zone z with st := .free, vacate := false }) := h.setZone z _
  unfold Machine.release
  dsimp only
  split
  · exact ((freed.dropEntry _ z).setZone z _).checkVaning _
  · exact freed.offerGrant z _

theorem letGo (k : Crane) (keep : List Zone) (s : State) : CaptureKept s (letGo k keep s) := by
  refine foldl_keeps (P := CaptureKept s) (fun t z ht => ?_) _ _ (refl s)
  exact ite (ite ((ht.setZone z _).judgeLimit z) (ht.release z)) ht

theorem reportBooking (h : CaptureKept s t) (id : Nat) : CaptureKept s (reportBooking id t) := by
  unfold Machine.reportBooking
  split
  · exact h
  · exact h.offer _

theorem suspend (h : CaptureKept s t) (k : Crane) (why : SuspendReason) : CaptureKept s (suspend k why t) := by
  cases active : activeBooking t k with
  | none => rw [suspend_of_none active]; exact h
  | some b =>
    have updated : CaptureKept s (updateBooking b.id (suspendedRecord t b.overtime why) t) := h.trans (of_recorder rfl)
    rw [suspend_of_active active]
    exact (((updated.trans (letGo k [] _)).withdrawReservation k).rejudgeEntries k).reportBooking b.id

theorem setControl (h : CaptureKept s t) (k : Crane) (new : ControlState) : CaptureKept s (setControl k new t) :=
  ite (h.setLane k _) ((h.setLane k _).offer _)

theorem setLaneState (h : CaptureKept s t) (k : Crane) (new : LaneState) : CaptureKept s (setLaneState k new t) :=
  ite (h.setLane k _) ((h.setLane k _).offer _)

theorem haltState (h : CaptureKept s t) (k : Crane) : CaptureKept s (haltState k t) :=
  ite h ((h.setControl k _).suspend k _)

end CaptureKept

/-! ### The stale lane (R29, R64, R65) -/

/-- The state of a lane that has just become STALE, before its holds are judged. -/
def staleState (k : Crane) (s : State) : State :=
  startTlost k (setLaneState k .stale (s.setLane k { s.lane k with tstale := none }))

/-- The state in which a stale lane's holds are frozen and widened, in OPERATING (R64, R65). -/
def widenedState (k : Crane) (s : State) : State :=
  if (staleState k s).mode = .operating then widen k (freeze k (staleState k s)) else staleState k s

theorem becomeStale_eq (k : Crane) (s : State) :
    becomeStale k s = suspend k .lane (clearMarks k (leaveLive k (widenedState k s))) := rfl

theorem staleState_within (k : Crane) (s : State) : Within { lanes := true } s (staleState k s) :=
  (startTlost_within _ _).after ((setLaneState_within _ _ _).after (setLane_within _ _ _).mono)

theorem widenedState_within (k : Crane) (s : State) : Within { lanes := true, air := true } s (widenedState k s) := by
  have stale := staleState_within k s
  exact ite_within ((widen_within _ _).after ((freeze_within _ _).after stale.mono)) stale.mono

/-- A stale lane's holds of kind MOTION and BOOKING are frozen; widening then takes only FREE zones, as FROZEN. -/
theorem widenedState_st {k : Crane} {s : State} (h : s.mode = .operating) (z : Zone) :
    ((widenedState k s).zone z).st = (s.zone z).st.frozenBy k
      ∨ (s.zone z).st = .free ∧ ((widenedState k s).zone z).st = .held k .frozen s.now := by
  have stale := staleState_within k s
  have frozen : ((freeze k (staleState k s)).zone z).st = (s.zone z).st.frozenBy k := by
    rw [freeze_st, zone_congr (stale.air rfl)]
  have free : (s.zone z).st.frozenBy k = .free → (s.zone z).st = .free := by
    unfold ZoneState.frozenBy
    split
    · split
      · exact nofun
      · exact nofun
    · exact nofun
    · exact fun _ => by assumption
  unfold widenedState
  rw [if_pos (stale.mode.trans h)]
  rcases widen_st k (freeze k (staleState k s)) z with same | ⟨taken, held⟩
  · exact .inl (same.trans frozen)
  · refine .inr ⟨free (frozen.symm.trans taken), held.trans ?_⟩
    rw [(freeze_within _ _).now, stale.now]

theorem frozenBy_held {st : ZoneState} {k : Crane} {kind : HoldKind} {taken : Nat} (h : st.frozenBy k = .held k kind taken) :
    kind = .frozen ∨ kind = .exitOnly := by
  unfold ZoneState.frozenBy at h
  split at h
  · rename_i j old t
    split at h
    · cases h
      exact .inl rfl
    · rename_i other
      cases h
      cases kind with
      | motion => exact absurd ⟨rfl, .inl rfl⟩ other
      | booking => exact absurd ⟨rfl, .inr rfl⟩ other
      | frozen => exact .inl rfl
      | exitOnly => exact .inr rfl
  · cases h
  · cases h

theorem frozenBy_of_held {k : Crane} (kind : HoldKind) (taken : Nat) :
    ∃ new, (ZoneState.held k kind taken).frozenBy k = .held k new taken := by
  unfold ZoneState.frozenBy
  dsimp only
  split
  · exact ⟨_, rfl⟩
  · exact ⟨_, rfl⟩

theorem frozenBy_of_holder {r : ZoneRec} {j k : Crane} (h : r.holder = some j) (ne : j ≠ k) : r.st.frozenBy k = r.st := by
  unfold ZoneRec.holder at h
  split at h
  · cases h
  · rename_i i kind taken at_
    cases h
    rw [at_]
    exact if_neg fun same => ne same.1
  · rename_i i taken at_
    rw [at_]
    rfl

theorem leaveLive_st (k : Crane) (s : State) (z : Zone) : ((leaveLive k s).zone z).st = (s.zone z).st := by
  rw [leaveLive, State.setArb_zone, withdrawWait_st]

/-- The zones of a stale lane are those that freezing and widening left. -/
theorem becomeStale_st {k : Crane} {s : State} (h : s.mode = .operating) (z : Zone) :
    ((becomeStale k s).zone z).st = ((widenedState k s).zone z).st := by
  have cleared (y : Zone) : ((clearMarks k (leaveLive k (widenedState k s))).zone y).st
      = ((widenedState k s).zone y).st := by
    rw [clearMarks, State.setGov_zone, leaveLive_st]
  have unbooked : NoBookingHold k (clearMarks k (leaveLive k (widenedState k s))) := fun y taken at_ => by
    rw [cleared] at at_
    rcases widenedState_st h y with frozen | ⟨-, wide⟩
    · rcases frozenBy_held (frozen.symm.trans at_) with booking | booking
      · cases booking
      · cases booking
    · cases wide.symm.trans at_
  rw [becomeStale_eq, suspend_st_of_noBookingHold unbooked, cleared]

theorem becomeStale_arb (k : Crane) (s : State) :
    ((becomeStale k s).arb k).motionWait = none ∧ ((becomeStale k s).arb k).overlaps = [] := by
  have left : (clearMarks k (leaveLive k (widenedState k s))).arb k
      = { (widenedState k s).arb k with motionWait := none, overlaps := [] } := by
    rw [clearMarks, State.setGov_arb, leaveLive, State.setArb_arb_self, withdrawWait_arb_self]
  have fall := WaitsFall.suspend k .lane (clearMarks k (leaveLive k (widenedState k s)))
  rw [becomeStale_eq, fall.frame k, left]
  rw [← becomeStale_eq] at fall ⊢
  refine ⟨?_, rfl⟩
  rcases fall.wait k with same | gone
  · rw [left] at same
    exact same
  · exact gone

theorem becomeStale_govRec (k j : Crane) (s : State) : (becomeStale k s).govRec j
    = if j = k then { s.govRec k with chartMark := .clear, overrunMark := false } else s.govRec j := by
  have w : Within { lanes := true, air := true } s (leaveLive k (widenedState k s)) :=
    (leaveLive_within _ _).after (widenedState_within k s).mono
  rw [becomeStale_eq, govRec_congr ((suspend_within _ _ _).gov rfl), clearMarks, State.setGov_govRec, govRec_congr (w.gov rfl),
    govRec_congr (w.gov rfl)]

theorem becomeStale_record {k : Crane} {s : State} {b : Booking} (h : activeBooking s k = some b) :
    ∃ b' ∈ (becomeStale k s).bookings, b'.id = b.id ∧ b'.state = (if b.overtime = true then .lapsed else .suspended)
      ∧ b'.reason = some .lane := by
  have w : Within { lanes := true, air := true, gov := true } s (clearMarks k (leaveLive k (widenedState k s))) :=
    (clearMarks_within _ _).after ((leaveLive_within _ _).after (widenedState_within k s).mono)
  obtain ⟨b', mem, id, state, reason, -⟩ := suspend_record ((activeBooking_congr (w.bookings rfl) k).trans h) .lane
  exact ⟨b', mem, id, state, reason⟩

theorem exec_tstaleExpiry {k : Crane} {x : Nat} {s : State} (live : (s.lane k).state = .live)
    (due : (s.lane k).tstale = some x) : exec (.tstaleExpiry k) s = .next (becomeStale k (s.waitUntil x)) := by
  show execTstaleExpiry k s = _
  unfold execTstaleExpiry
  rw [due]
  dsimp only
  rw [if_pos live]

/-- Settles O32, by what the stale lane leaves of lanes, holds and bookings. -/
theorem tstaleExpiryMakesTheLaneStale : Obligations.TstaleExpiryMakesTheLaneStale := by
  intro k x s live due
  have w := becomeStale_within k (s.waitUntil x)
  have lanes := becomeStale_lanes k (s.waitUntil x)
  refine ⟨_, exec_tstaleExpiry live due, w.now, ?_, fun j h => ⟨lane_of_lanes_ne lanes h, ?_⟩, (becomeStale_arb k _).1,
    (becomeStale_arb k _).2, ?_, fun operating => ⟨fun z kind taken held => ?_, fun z kind taken held => ?_,
    fun z j h holder => ?_⟩, fun b active => becomeStale_record (s := s.waitUntil x) active, w.frame_waited⟩
  · rw [lane_of_lanes lanes, w.now]
    rfl
  · rw [becomeStale_govRec, if_neg h]
    rfl
  · rw [becomeStale_govRec, if_pos rfl]
    rfl
  · rw [becomeStale_st (s := s.waitUntil x) operating] at held
    rcases widenedState_st (k := k) (s := s.waitUntil x) operating z with frozen | ⟨-, wide⟩
    · exact frozenBy_held (frozen.symm.trans held)
    · cases wide.symm.trans held
      exact .inl rfl
  · rw [becomeStale_st (s := s.waitUntil x) operating]
    rcases widenedState_st (k := k) (s := s.waitUntil x) operating z with frozen | ⟨free, -⟩
    · rw [frozen, show ((s.waitUntil x).zone z).st = .held k kind taken from held]
      exact frozenBy_of_held kind taken
    · cases free.symm.trans held
  · rw [becomeStale_st (s := s.waitUntil x) operating]
    rcases widenedState_st (k := k) (s := s.waitUntil x) operating z with frozen | ⟨free, -⟩
    · exact frozen.trans (frozenBy_of_holder holder h)
    · rw [ZoneRec.holder, show (s.zone z).st = .free from free] at holder
      cases holder

/-! ### The lost lane and the silent cab (R31, R33, R159) -/

/-- The state of a lane that has just become LOST and its crane HALTED, before the trigger. -/
def lostState (k : Crane) (s : State) : State :=
  haltState k (setLaneState k .lost (s.setLane k { s.lane k with tlost := none }))

theorem lostState_within (k : Crane) (s : State) :
    Within { lanes := true, air := true, vanes := true, bookings := true } s (lostState k s) :=
  (haltState_within _ _).after ((setLaneState_within _ _ _).after (setLane_within _ _ _).mono)

theorem becomeLost_eq (k : Crane) (s : State) : becomeLost k s = trigger .laneLost (some k) none (lostState k s) := rfl

theorem lostState_lane (k : Crane) (s : State) :
    (lostState k s).lane k = { s.lane k with state := .lost, tlost := none, control := .halted } :=
  (lane_congr ((trigger_within .laneLost (some k) none (lostState k s)).lanes rfl) k).symm.trans
    (lane_of_lanes (becomeLost_lanes k s))

theorem lostState_captureKept (k : Crane) (s : State) : CaptureKept s (lostState k s) :=
  (((CaptureKept.refl s).setLane k _).setLaneState k .lost).haltState k

/-- A halt without a lift in flight, or of a halted crane, touches lanes alone. -/
theorem haltState_within_of_idle {k : Crane} {s : State}
    (idle : activeBooking s k = none ∨ (s.lane k).control = .halted) : Within { lanes := true } s (haltState k s) := by
  unfold haltState
  split
  · exact Within.refl _ s
  · rename_i running
    have none_active := idle.resolve_right running
    rw [suspend_of_none ((activeBooking_congr ((setControl_within _ _ _).bookings rfl) k).trans none_active)]
    exact setControl_within _ _ _

theorem lostState_within_of_idle {k : Crane} {s : State}
    (idle : activeBooking s k = none ∨ (s.lane k).control = .halted) : Within { lanes := true } s (lostState k s) := by
  have stated : Within { lanes := true } s (setLaneState k .lost (s.setLane k { s.lane k with tlost := none })) :=
    (setLaneState_within _ _ _).after (setLane_within _ _ _)
  have lane := lane_of_lanes (setLaneState_lanes k .lost (s.setLane k { s.lane k with tlost := none }))
  rw [State.setLane_lane_self] at lane
  refine (haltState_within_of_idle (idle.imp (fun h => ?_) fun h => ?_)).after stated
  · rw [activeBooking_congr (stated.bookings rfl)]
    exact h
  · rw [lane]
    exact h

theorem exec_tlostExpiry {k : Crane} {x : Nat} {s : State} (stale : (s.lane k).state = .stale)
    (due : (s.lane k).tlost = some x) : exec (.tlostExpiry k) s = .next (becomeLost k (s.waitUntil x)) := by
  show execTlostExpiry k s = _
  unfold execTlostExpiry
  rw [due]
  dsimp only
  rw [if_pos stale]

theorem exec_tcabExpiry {k : Crane} {x : Nat} {s : State} (active : (s.lane k).cab = .active)
    (due : (s.lane k).tcab = some x) : exec (.tcabExpiry k) s = .next (becomeSilent k (s.waitUntil x)) := by
  show execTcabExpiry k s = _
  unfold execTcabExpiry
  rw [due]
  dsimp only
  rw [if_pos active]

theorem trigger_capture_of_full {t : TriggerKind} {s : State} {c : Capture} (k : Option Crane) (z : Option Zone)
    (full : s.recorder.capture = some c) : (trigger t k z s).recorder.capture = some c := by
  by_cases enabled : t ∈ s.recorder.settings.triggers
  · rw [trigger_of_full k z enabled full]
    exact full
  · have off : s.recorder.settings.triggers.contains t = false := by
      rw [List.contains_eq_mem]
      exact decide_eq_false enabled
    unfold trigger
    dsimp only
    rw [off, if_neg Bool.false_ne_true, full]

theorem becomeSilent_recorder {k : Crane} {s : State} (active : (s.lane k).cab = .active) :
    (becomeSilent k s).recorder = (offer { kind := .cabState, crane := some k, value := 1 } s).recorder := by
  have from_active : ((s.setLane k { s.lane k with tcab := none }).lane k).cab = .active := by
    rw [State.setLane_lane_self]
    exact active
  unfold becomeSilent setCabState
  dsimp only
  rw [from_active, if_neg nofun]
  exact offer_recorder_congr _ rfl rfl

/-- Settles O33, the lane through its halt and trigger, the cab through its report. -/
theorem tlostAndTcabExpiries : Obligations.TlostAndTcabExpiries := by
  refine ⟨fun k x s stale due => ?_, fun k x s active due => ?_⟩
  · have w := becomeLost_within k (s.waitUntil x)
    have kept := lostState_captureKept k (s.waitUntil x)
    refine ⟨_, exec_tlostExpiry stale due, w.now, lane_of_lanes (becomeLost_lanes k _),
      fun j h => lane_of_lanes_ne (becomeLost_lanes k _) h, fun idle => ?_, fun empty enabled => ?_, fun c full => ?_,
      w.frame_waited⟩
    · have quiet : Within { lanes := true } (s.waitUntil x) (becomeLost k (s.waitUntil x)) :=
        (trigger_within _ _ _ _).after (lostState_within_of_idle (s := s.waitUntil x) idle)
      exact ⟨quiet.air rfl, quiet.bookings rfl, quiet.vanes rfl⟩
    · have settings := (lostState_within k (s.waitUntil x)).recorder.settings rfl
      have enabled' : TriggerKind.laneLost ∈ (lostState k (s.waitUntil x)).recorder.settings.triggers := by
        rw [settings]
        exact enabled
      refine ⟨captureOf .laneLost (some k) none (lostState k (s.waitUntil x)), ?_, rfl, rfl, rfl, ?_⟩
      · rw [becomeLost_eq, trigger_of_empty _ _ enabled' (kept.capture.trans empty), offer_frame]
        rfl
      · rw [captureOf_snapshot, lostState_lane]
    · exact trigger_capture_of_full _ _ (kept.capture.trans full)
  · have w := becomeSilent_within k (s.waitUntil x)
    exact ⟨_, exec_tcabExpiry active due, w.now, lane_of_lanes (becomeSilent_lanes k _),
      fun j h => lane_of_lanes_ne (becomeSilent_lanes k _) h, becomeSilent_recorder (s := s.waitUntil x) active,
      w.frame_waited⟩

/-! ### HALT and RELEASE CRANE (R35 to R37, R145 to R147) -/

theorem haltState_of_halted {k : Crane} {s : State} (h : (s.lane k).control = .halted) : haltState k s = s := if_pos h

theorem haltState_of_run {k : Crane} {s : State} (h : (s.lane k).control = .run) :
    haltState k s = suspend k .halt (setControl k .halted s) := if_neg (by rw [h]; exact nofun)

theorem runState_of_run {k : Crane} {s : State} (h : (s.lane k).control = .run) : runState k s = s := if_pos h

theorem runState_of_halted {k : Crane} {s : State} (h : (s.lane k).control = .halted) :
    runState k s = judgeResume k (setControl k .run s) := if_neg (by rw [h]; exact nofun)

theorem setControl_recorder {k : Crane} {new : ControlState} {s : State} (h : (s.lane k).control ≠ new) :
    (setControl k new s).recorder = (offer
      { kind := .controlState, crane := some k, value := controlCode new,
        clearEdge := controlRank new < controlRank (s.lane k).control } s).recorder := by
  unfold setControl
  dsimp only
  rw [if_neg h]
  exact offer_recorder_congr _ rfl rfl

theorem activeBooking_setControl (j k : Crane) (new : ControlState) (s : State) :
    activeBooking (setControl k new s) j = activeBooking s j := activeBooking_congr ((setControl_within _ _ _).bookings rfl) j

/-- Settles O34, by whether the crane runs and has a lift in flight. -/
theorem haltCraneHaltsItsCrane : Obligations.HaltCraneHaltsItsCrane := by
  intro tag tgt k s target
  have judged : haltCrane tgt s = (.ok, haltState k s) := by rw [haltCrane, target]
  have lanes := haltState_lanes k s
  refine ⟨_, exec_answered (q := .haltCrane) judged, rfl, lane_of_lanes lanes, fun j h => lane_of_lanes_ne lanes h,
    fun halted => ?_, fun run idle => ⟨?_, ?_⟩, fun run b active => ?_, ?_⟩
  · rw [haltState_of_halted halted]
  · show (haltState k s).recorder = _
    rw [haltState_of_run run, suspend_of_none ((activeBooking_setControl k k _ s).trans idle),
      setControl_recorder (by rw [run]; exact nofun), run]
    rfl
  · have w := haltState_within_of_idle (s := s) (k := k) (.inl idle)
    exact congrArg (fun t : State => { t with sent := s.sent ++ [responseFrame .haltCrane tag .ok] }) w.frame
  · show ∃ b' ∈ (haltState k s).bookings, _
    rw [haltState_of_run run]
    exact suspend_record ((activeBooking_setControl k k _ s).trans active) .halt
  · exact congrArg (fun t : State => { t with sent := s.sent ++ [responseFrame .haltCrane tag .ok] })
      (haltState_within k s).frame

/-- The zones of a footprint that another crane holds (R48). -/
theorem mem_overlapZones {s : State} {k : Crane} {f : List Occ} {z : Zone} : z ∈ overlapZones s k f
    ↔ (useIn f z).isSome = true ∧ ∃ j, (s.zone z).holder = some j ∧ j ≠ k := by
  unfold overlapZones
  rw [List.mem_filter, Bool.and_eq_true]
  cases h : (s.zone z).holder with
  | none => simp
  | some j => simp [mem_allZones]

/-- The first of the overlapped zones is the lowest. -/
theorem overlapZones_sorted (s : State) (k : Crane) (f : List Occ) :
    (overlapZones s k f).Pairwise fun y z => y.val < z.val :=
  ((List.pairwise_lt_finRange 64).imp fun h => h).filter _

theorem releaseCrane_of_live {tgt : Target} {k : Crane} {s : State} (target : targetCrane tgt = some k)
    (present : cranePresent s k = true) (operating : s.mode = .operating) (live : (s.lane k).state = .live) :
    (∀ z rest, overlapZones s k (footprint s k) = z :: rest → releaseCrane tgt s = (.refused .conflict 0 none (some z), s))
      ∧ (overlapZones s k (footprint s k) = [] → releaseCrane tgt s = (.ok, runState k s)) := by
  unfold releaseCrane
  rw [target]
  dsimp only
  rw [present, if_neg (by decide), if_neg (by rw [operating]; exact nofun), if_neg (fun h => h live)]
  refine ⟨fun z rest h => ?_, fun h => ?_⟩
  · rw [h]
  · rw [h]

theorem suspendedBooking_congr {s t : State} (h : t.bookings = s.bookings) (k : Crane) :
    suspendedBooking t k = suspendedBooking s k := by
  unfold suspendedBooking
  rw [h]

/-- A SUSPENDED lift that may resume is ACTIVE again on its leg (R147). -/
theorem judgeResume_record {s : State} {k : Crane} {b : Booking} (h : suspendedBooking s k = some b)
    (may : mayResume s k = true) :
    ∃ b' ∈ (judgeResume k s).bookings, b'.id = b.id ∧ b'.state = .active ∧ b'.leg = b.leg := by
  have bookings : (judgeResume k s).bookings
      = s.bookings.map fun c => if c.id == b.id then { c with state := .active } else c := by
    unfold judgeResume
    rw [h]
    dsimp only
    rw [if_pos may, (reportBooking_within _ _).bookings rfl, (legEntry_within _ _).bookings rfl]
    rfl
  refine ⟨{ b with state := .active }, ?_, rfl, rfl, rfl⟩
  rw [bookings]
  exact List.mem_map.2 ⟨b, (suspendedBooking_eq_some h).1, if_pos (beq_self_eq_true _)⟩

theorem judgeResume_of_none {s : State} {k : Crane} (h : suspendedBooking s k = none) : judgeResume k s = s := by
  unfold judgeResume
  rw [h]

/-- Settles O35, by whether another crane holds a zone of the footprint. -/
theorem releaseCraneRunsItsCrane : Obligations.ReleaseCraneRunsItsCrane := by
  intro tag tgt k s target present operating live
  obtain ⟨conflict, free⟩ := releaseCrane_of_live target present operating live
  refine ⟨fun clear => ?_, fun z j used holder ne lowest => ?_⟩
  · have none_overlaps : overlapZones s k (footprint s k) = [] := List.eq_nil_iff_forall_not_mem.2 fun z mem => by
      obtain ⟨used, j, holder, ne⟩ := mem_overlapZones.1 mem
      exact ne (clear z j used holder)
    have lanes := runState_lanes k s
    have control := setControl_within k .run s
    refine ⟨_, exec_answered (q := .releaseCrane) (free none_overlaps), rfl, lane_of_lanes lanes,
      fun j h => lane_of_lanes_ne lanes h, fun run => ?_, fun halted unsuspended => ⟨?_, ?_⟩,
      fun halted level vane b suspended => ?_, ?_⟩
    · rw [runState_of_run run]
    · show (runState k s).recorder = _
      rw [runState_of_halted halted, judgeResume_of_none ((suspendedBooking_congr (control.bookings rfl) k).trans unsuspended),
        setControl_recorder (by rw [halted]; exact nofun), halted]
      rfl
    · have same : runState k s = setControl k .run s := by
        rw [runState_of_halted halted,
          judgeResume_of_none ((suspendedBooking_congr (control.bookings rfl) k).trans unsuspended)]
      rw [same]
      exact congrArg (fun t : State => { t with sent := s.sent ++ [responseFrame .releaseCrane tag .ok] }) control.frame
    · show ∃ b' ∈ (runState k s).bookings, _
      rw [runState_of_halted halted]
      refine judgeResume_record ((suspendedBooking_congr (control.bookings rfl) k).trans suspended) ?_
      have lane := lane_of_lanes (setControl_lanes k .run s)
      unfold mayResume
      rw [wind_congr (control.winds rfl), vane_congr (control.vanes rfl), lane]
      simp [level, vane, live]
    · exact congrArg (fun t : State => { t with sent := s.sent ++ [responseFrame .releaseCrane tag .ok] })
        (runState_within k s).frame
  · have mem : z ∈ overlapZones s k (footprint s k) := mem_overlapZones.2 ⟨used, j, holder, ne⟩
    have sorted := overlapZones_sorted s k (footprint s k)
    cases overlapped : overlapZones s k (footprint s k) with
    | nil => rw [overlapped] at mem; cases mem
    | cons y rest =>
      have first : y = z := by
        rw [overlapped] at mem sorted
        rcases List.mem_cons.1 mem with same | later
        · exact same.symm
        · obtain ⟨usedY, i, holderY, neY⟩ := mem_overlapZones.1 (overlapped ▸ List.mem_cons_self)
          exact absurd (lowest y i ((List.pairwise_cons.1 sorted).1 z later) usedY holderY) neY
      rw [exec_answered (q := .releaseCrane) (conflict y rest overlapped), first]

end Sys2Proof.Machine

/-! PROOFS. The hold limit (R58), the vane timeout (R124), the gust window (R110, R112) and the Booking Table's requests and
window events (R133 to R135, R144, R148, R150). -/

namespace Sys2Proof.Machine

set_option Elab.async false

/-! ### Frames of commands that move site time -/

theorem waitSite_siteTime (s : State) (x : Nat) : (s.waitSite x).clock.siteTime = max s.clock.siteTime x := by
  unfold State.waitSite
  split
  · rename_i past
    exact (Nat.max_eq_left past).symm
  · rename_i ahead
    exact (Nat.max_eq_right (Nat.le_of_not_le ahead)).symm

theorem waitSite_frame (s : State) (x : Nat) :
    s.waitSite x = { s with now := (s.waitSite x).now, clock := (s.waitSite x).clock } := by
  unfold State.waitSite
  split
  · rfl
  · rfl

/-- A frame of a command that first moves site time. -/
theorem Within.frame_waitSite {w : Touch} {s t : State} {x : Nat} (h : Within w (s.waitSite x) t) :
    t = { s with
      now := t.now, clock := t.clock
      lanes := bif w.lanes then t.lanes else s.lanes, poses := bif w.poses then t.poses else s.poses
      site := bif w.site then t.site else s.site, air := bif w.air then t.air else s.air
      access := bif w.access then t.access else s.access, gov := bif w.gov then t.gov else s.gov
      winds := bif w.winds then t.winds else s.winds, vanes := bif w.vanes then t.vanes else s.vanes
      bookings := bif w.bookings then t.bookings else s.bookings, mgmt := bif w.mgmt then t.mgmt else s.mgmt
      sent := bif w.sent then t.sent else s.sent, recorder := t.recorder } := by
  refine h.frame.trans ?_
  rw [h.now, h.clock]
  unfold State.waitSite
  split
  · rfl
  · rfl

/-! ### The hold limit (R58, R59) -/

theorem limitInstant_of_motion {s : State} {z : Zone} {k : Crane} {taken : Nat} (held : (s.zone z).st = .held k .motion taken)
    (limited : holdLimit s z ≠ 0) (waited : (s.zone z).queue ≠ []) (unmarked : (s.zone z).vacate = false) :
    limitInstant s z = some (max (s.arb k).lastReload taken + 1000 * holdLimit s z) := by
  unfold limitInstant
  dsimp only
  rw [held]
  exact if_pos ⟨limited, waited, unmarked⟩

theorem markVacate_of_unmarked {s : State} {z : Zone} {k : Crane} (held : (s.zone z).heldBy = some k)
    (unmarked : (s.zone z).vacate = false) (cause : VacateCause) : markVacate z cause s
      = offer { kind := .vacateRequest, crane := some k, zone := some z, value := vacateCode cause }
          (s.setZone z { s.zone z with vacate := true }) := by
  unfold markVacate
  rw [held]
  dsimp only
  rw [unmarked, if_neg Bool.false_ne_true]

/-- Settles O36, by the mark the expiry sets. -/
theorem holdLimitExpiryMarksTheHold : Obligations.HoldLimitExpiryMarksTheHold := by
  intro z k taken s held limited waited unmarked
  have due := limitInstant_of_motion held limited waited unmarked
  have run : exec (.holdLimitExpiry z) s
      = .next (markVacate z .holdLimit (s.waitUntil (max (s.arb k).lastReload taken + 1000 * holdLimit s z))) := by
    show execHoldLimitExpiry z s = _
    unfold execHoldLimitExpiry
    rw [due]
  generalize max (s.arb k).lastReload taken + 1000 * holdLimit s z = x at run ⊢
  have marked := markVacate_of_unmarked (s := s.waitUntil x) (z := z) (heldBy_eq_some.2 ⟨_, _, held⟩) unmarked .holdLimit
  have w := markVacate_within z .holdLimit (s.waitUntil x)
  have zone (y : Zone) : (markVacate z .holdLimit (s.waitUntil x)).zone y
      = if y = z then { s.zone z with vacate := true } else s.zone y := by
    rw [marked, zone_congr (offer_air _ _), State.setZone_zone]
    rfl
  refine ⟨_, run, w.now, (zone z).trans (if_pos rfl), fun y h => (zone y).trans (if_neg h), fun j => markVacate_arb z _ _ j, ?_,
    w.frame_waited⟩
  rw [marked]
  exact offer_recorder_congr _ rfl rfl

/-! ### The vane timeout (R124) -/

/-- What a trigger writes is read from the recorder, the stamp and what every crane shows. -/
theorem trigger_recorder_congr {s t : State} (g : TriggerKind) (k : Option Crane) (z : Option Zone)
    (recorder : t.recorder = s.recorder) (stamp : t.stamp = s.stamp) (shown : ∀ j, snapshotOf t j = snapshotOf s j) :
    (trigger g k z t).recorder = (trigger g k z s).recorder := by
  unfold trigger
  dsimp only
  rw [recorder, stamp, show snapshotOf t = snapshotOf s from funext shown]
  split
  · split
    · exact offer_recorder_congr _ rfl stamp
    · rfl
  · exact recorder

theorem Within.stamp {w : Touch} {s t : State} (h : Within w s t) : t.stamp = s.stamp := by
  unfold State.stamp
  rw [h.clock, h.now]

theorem offer_snapshotOf (o : Offer) (s : State) (j : Crane) : snapshotOf (offer o s) j = snapshotOf s j := by
  rw [offer_frame]
  rfl

/-- Settles O56, by the flag, the report and the trigger of the blocked preparation. -/
theorem vaneTimeoutBlocksThePreparation : Obligations.VaneTimeoutBlocksThePreparation := by
  intro k x s preparing unblocked due zs
  have run : exec (.vaneTimeout k) s = .next (blockPreparation k (s.waitUntil x)) := by
    show execVaneTimeout k s = _
    unfold execVaneTimeout
    rw [due]
    dsimp only
    rw [if_pos ⟨preparing, unblocked⟩]
  have w := blockPreparation_within k (s.waitUntil x)
  have pending : sweepPendingFor (s.waitUntil x) k = zs :=
    List.filter_congr fun z _ => beq_eq_decide _ _
  have vane (j : Crane) : (blockPreparation k (s.waitUntil x)).vane j
      = if j = k then { s.vane k with blocked := true } else s.vane j := by
    unfold blockPreparation
    rw [vane_congr ((trigger_within _ _ _ _).vanes rfl), vane_congr ((offer_within _ _).vanes rfl), State.setVane_vane]
    rfl
  refine ⟨_, run, w.now, (vane k).trans (if_pos rfl), fun j h => (vane j).trans (if_neg h), ?_, w.frame_waited⟩
  unfold blockPreparation
  dsimp only
  rw [pending]
  have noted := offer_recorder_congr (s := s.waitUntil x) (t := (s.waitUntil x).setVane k { s.vane k with blocked := true })
    { kind := .vaneBlocked, crane := some k, zone := zs.head?, value := zs.length } rfl rfl
  refine trigger_recorder_congr _ _ _ noted ?_ fun j => ?_
  · rw [(offer_within _ _).stamp, (offer_within _ _).stamp]
    rfl
  · rw [offer_snapshotOf, offer_snapshotOf, snapshotOf, State.setVane_vane]
    split
    · rename_i h
      rw [h]
      rfl
    · rfl

/-! ### The gust window (R110, R112) -/

theorem newest_append {n x : Nat} {l : List Nat} (some_kept : 1 ≤ n) (fits : l.length ≤ n) :
    newest n (l ++ [x]) = if l.length < n then l ++ [x] else l.drop 1 ++ [x] := by
  unfold newest
  rw [List.length_append, List.length_singleton]
  split
  · rw [show l.length + 1 - n = 0 by omega, List.drop_zero]
  · rw [show l.length + 1 - n = 1 by omega, List.drop_append_of_le_length (by omega)]

theorem le_foldl_max (l : List Nat) (a : Nat) : a ≤ l.foldl max a ∧ ∀ y ∈ l, y ≤ l.foldl max a := by
  induction l generalizing a with
  | nil => exact ⟨le_rfl, fun _ h => (nomatch h)⟩
  | cons x l ih =>
    obtain ⟨start, rest⟩ := ih (max a x)
    refine ⟨(Nat.le_max_left a x).trans start, fun y hy => ?_⟩
    rcases List.mem_cons.1 hy with rfl | hy
    · exact (Nat.le_max_right a y).trans start
    · exact rest y hy

theorem foldl_max_mem (l : List Nat) (a : Nat) : l.foldl max a = a ∨ l.foldl max a ∈ l := by
  induction l generalizing a with
  | nil => exact .inl rfl
  | cons x l ih =>
    rw [List.foldl_cons]
    rcases ih (max a x) with same | later
    · rcases max_choice a x with h | h
      · exact .inl (same.trans h)
      · exact .inr (by rw [same, h]; exact List.mem_cons_self)
    · exact .inr (List.mem_cons_of_mem _ later)

/-- The gust is the largest sample of a window that has one. -/
theorem gustOf_mem {l : List Nat} {x : Nat} (h : x ∈ l) : gustOf l ∈ l := by
  rcases foldl_max_mem l 0 with zero | mem
  · have bound := (le_foldl_max l 0).2 x h
    rw [zero] at bound
    rw [gustOf, zero, ← Nat.le_zero.1 bound]
    exact h
  · exact mem

/-- Settles O54, by the newest samples of the window and their largest. -/
theorem gustAndWindFigure : Obligations.GustAndWindFigure := by
  intro w p x some_kept fits
  have window : (w.advance p x).window = newest p.ng (w.window ++ [x]) := rfl
  have latest : x ∈ (w.advance p x).window := by
    rw [window, newest_append some_kept fits]
    split
    · exact List.mem_append_right _ (List.mem_singleton_self x)
    · exact List.mem_append_right _ (List.mem_singleton_self x)
  refine ⟨rfl, window.trans (newest_append some_kept fits), gustOf (w.advance p x).window, nextMean p.meanShift w.mean x,
    gustOf_mem latest, (le_foldl_max _ 0).2, rfl, ?_, rfl⟩
  have floor : ⌊(gustOf (w.advance p x).window : ℚ) * p.gustWeight / 16⌋₊ = gustOf (w.advance p x).window * p.gustWeight / 16 := by
    rw [← Nat.cast_mul]
    exact Nat.floor_div_eq_div (K := ℚ) _ 16
  rw [floor]
  rfl

/-! ### Records found and changed (R132, R134) -/

theorem updateBooking_bookings (id : Nat) (f : Booking → Booking) (s : State) :
    (updateBooking id f s).bookings = s.bookings.map fun c => if c.id = id then f c else c :=
  List.map_congr_left fun c _ => by simp

theorem findBooking_updateBooking {s : State} {id : Nat} {b : Booking} (h : findBooking s id = some b) {f : Booking → Booking}
    (same : ∀ c, (f c).id = c.id) : findBooking (updateBooking id f s) id = some (f b) := by
  have id_eq := id_of_findBooking h
  unfold findBooking at h ⊢
  rw [updateBooking_bookings, List.find?_map]
  have test : ((fun c : Booking => c.id == id) ∘ fun c => if c.id = id then f c else c) = fun c => c.id == id := by
    funext c
    show ((if c.id = id then f c else c).id == id) = (c.id == id)
    split
    · rw [same]
    · rfl
  rw [test, h, Option.map_some, if_pos id_eq]

/-- BOOKING_STATE of a record that is not SUSPENDED (R134). -/
theorem reportBooking_recorder {s t : State} {id code : Nat} {b : Booking} (found : findBooking t id = some b)
    (running : b.state ≠ .suspended) (coded : bookingCode b.state = code) (recorder : t.recorder = s.recorder) (stamp : t.stamp = s.stamp) :
    (reportBooking id t).recorder = (offer
      { kind := .bookingState, crane := some b.crane, booking := some id,
        value := code * 16777216 + b.leg * 65536 } s).recorder := by
  have value : bookingValue b (bookingCode b.state) = code * 16777216 + b.leg * 65536 := by
    rw [bookingValue, if_neg running, coded]
    ring
  unfold reportBooking
  rw [found]
  dsimp only
  rw [value, id_of_findBooking found]
  exact offer_recorder_congr _ recorder stamp

theorem reportOvertime_recorder {s t : State} {id : Nat} {b : Booking} (found : findBooking t id = some b)
    (active : b.state = .active) (recorder : t.recorder = s.recorder) (stamp : t.stamp = s.stamp) :
    (reportOvertime id t).recorder = (offer
      { kind := .bookingState, crane := some b.crane, booking := some id, value := 8 * 16777216 + b.leg * 65536 } s).recorder := by
  have value : bookingValue b overtimeCode = 8 * 16777216 + b.leg * 65536 := by
    rw [bookingValue, if_neg (by rw [active]; exact nofun), overtimeCode]
    ring
  unfold reportOvertime
  rw [found]
  dsimp only
  rw [value, id_of_findBooking found]
  exact offer_recorder_congr _ recorder stamp

/-! ### Window events (R135, R148) -/

theorem exec_windowOpenEvent {id : Nat} {b : Booking} {s : State} (found : findBooking s id = some b)
    (logged : b.state = .logged) : exec (.windowOpenEvent id) s = .next (openWindow id (s.waitSite b.opens)) := by
  show execWindowOpenEvent id s = _
  unfold execWindowOpenEvent
  rw [found]
  dsimp only
  rw [if_pos logged]

theorem exec_windowCloseEvent {id : Nat} {b : Booking} {s : State} (found : findBooking s id = some b)
    (pending : closePending b = true) : exec (.windowCloseEvent id) s = .next (closeWindow b (s.waitSite b.closes)) := by
  show execWindowCloseEvent id s = _
  unfold execWindowCloseEvent
  rw [found]
  dsimp only
  rw [if_pos pending]

/-- The record a close event makes of an OPEN or SUSPENDED booking (R135, R148). -/
def lapsedRecord (b : Booking) (s : State) (c : Booking) : Booking :=
  { c with state := .lapsed, outcome :=
      if b.state = .suspended then { c.outcome with endTime := some s.clock.siteTime } else c.outcome }

theorem closeWindow_of_waiting {b : Booking} (waiting : b.state = .opened ∨ b.state = .suspended) (s : State) :
    closeWindow b s = reportBooking b.id (updateBooking b.id (lapsedRecord b s) s) := by
  unfold closeWindow lapsedRecord
  rcases waiting with h | h
  · rw [h]
    rfl
  · rw [h]
    rfl

theorem closeWindow_of_active {b : Booking} (active : b.state = .active) (clear : b.overtime = false) (s : State) :
    closeWindow b s = reportOvertime b.id (updateBooking b.id (fun c => { c with overtime := true }) s) := by
  unfold closeWindow
  rw [active]
  dsimp only
  rw [clear, if_neg Bool.false_ne_true]

/-- Settles O60, by the state of the booking. -/
theorem windowEventsTakeTheirEffect : Obligations.WindowEventsTakeTheirEffect := by
  intro id b s found report
  have id_eq := id_of_findBooking found
  have foundAt (x : Nat) : findBooking (s.waitSite x) id = some b := (findBooking_waitSite s x id).trans found
  have bookingsAt (x : Nat) : (s.waitSite x).bookings = s.bookings := by rw [waitSite_frame]
  refine ⟨fun logged => ?_, fun waiting => ?_, fun active clear => ?_⟩
  · have w := openWindow_within id (s.waitSite b.opens)
    refine ⟨_, exec_windowOpenEvent found logged, ?_, ?_, ?_, w.frame_waitSite⟩
    · rw [w.clock, waitSite_siteTime]
    · rw [openWindow, (reportBooking_within _ _).bookings rfl, updateBooking_bookings, bookingsAt]
    · exact reportBooking_recorder (b := { b with state := .opened }) (findBooking_updateBooking (foundAt b.opens) (f := fun c => { c with state := .opened })
        fun _ => rfl) nofun rfl rfl rfl
  · have w := closeWindow_within b (s.waitSite b.closes)
    have pending : closePending b = true := by
      unfold closePending
      rcases waiting with h | h
      · rw [h]
      · rw [h]
    refine ⟨_, exec_windowCloseEvent found pending, ?_, ?_, ?_, w.frame_waitSite⟩
    · rw [w.clock, waitSite_siteTime]
    · rw [w.clock, closeWindow_of_waiting waiting, (reportBooking_within _ _).bookings rfl, updateBooking_bookings, bookingsAt,
        id_eq]
      rfl
    · rw [closeWindow_of_waiting waiting, id_eq]
      exact reportBooking_recorder (b := lapsedRecord b (s.waitSite b.closes) b) (findBooking_updateBooking (foundAt b.closes) (f := lapsedRecord b (s.waitSite b.closes))
        fun _ => rfl) nofun rfl rfl rfl
  · have w := closeWindow_within b (s.waitSite b.closes)
    have pending : closePending b = true := by
      unfold closePending
      rw [active]
      simp [clear]
    refine ⟨_, exec_windowCloseEvent found pending, ?_, ?_, ?_, w.frame_waitSite⟩
    · rw [w.clock, waitSite_siteTime]
    · rw [closeWindow_of_active active clear, (reportOvertime_within _ _).bookings rfl, updateBooking_bookings, bookingsAt, id_eq]
    · rw [closeWindow_of_active active clear, id_eq]
      exact reportOvertime_recorder (b := { b with overtime := true }) (findBooking_updateBooking (foundAt b.closes) (f := fun c => { c with overtime := true })
        fun _ => rfl) active rfl rfl

/-! ### CANCEL and RETIRE BOOKING (R141, R144, R150) -/

theorem letGoZone_within (k : Crane) (f : List Occ) (keep : List Zone) (s : State) (z : Zone) :
    Within { air := true, vanes := true } s (letGoZone k f keep s z) :=
  ite_within (ite_within ((judgeLimit_within _ _).after (setKind_within _ _ _).mono) (release_within _ _)) (Within.refl _ _)

/-- A crane that lets all its BOOKING holds go has none left, when no leg gives a released zone that kind again. -/
theorem letGo_noBookingHold {k : Crane} {s : State} (grounded : activeBooking s k = none) : NoBookingHold k (letGo k [] s) := by
  intro z taken
  have other (t : State) (y : Zone) (h : y ≠ z) : ((letGoZone k (footprint s k) [] t y).zone z).st = (t.zone z).st := by
    unfold letGoZone
    split
    · split
      · rw [judgeLimit_st, setKind_st_ne _ _ _ h.symm]
      · exact release_st_ne y t h.symm
    · rfl
  obtain ⟨t, bookings, -, at_⟩ := foldl_zones_at (f := letGoZone k (footprint s k) []) (I := fun t => t.bookings = s.bookings)
    (read := fun t => (t.zone z).st) (s := s) (fun t y ht => ((letGoZone_within k _ [] t y).bookings rfl).trans ht)
    (fun t y _ h => other t y h) rfl
  rw [letGo, at_]
  unfold letGoZone
  split
  · rename_i held
    split
    · rw [judgeLimit_st]
      obtain ⟨j, taken', kept⟩ := isHeldBy_iff.1 held.1
      obtain ⟨since, motion⟩ := setKind_st_held (heldBy_eq_some.2 ⟨_, _, kept⟩) .motion
      rw [motion]
      exact nofun
    · rcases (release_st z t).2 with free | ⟨c, swept⟩ | ⟨c, granted⟩
      · rw [free]
        exact nofun
      · rw [swept]
        exact nofun
      · rw [granted]
        intro same
        obtain ⟨rfl, booking, -⟩ := ZoneState.held.inj same
        have leg := mem_currentLeg_of_kindFor booking
        rw [currentLeg, activeBooking_congr bookings, grounded] at leg
        cases leg
  · rename_i idle
    intro held
    refine idle ⟨isHeldBy_iff.2 ⟨_, _, held⟩, ?_, List.not_mem_nil⟩
    rw [ZoneRec.kind, held]

theorem giveUp_noBookingHold {k : Crane} {s : State} (grounded : activeBooking s k = none) : NoBookingHold k (giveUp k s) := by
  intro z taken
  rw [giveUp, rejudgeEntries_st, withdrawReservation_st]
  exact letGo_noBookingHold grounded z taken

theorem giveUp_reservation (k : Crane) (s : State) : ((giveUp k s).arb k).reservation = none := by
  rw [giveUp, rejudgeEntries_arb, withdrawReservation_arb_self]

/-- The record CANCEL BOOKING leaves (R144). -/
def cancelledRecord (b : Booking) (s : State) (c : Booking) : Booking :=
  { c with state := .cancelled, outcome :=
      if b.state = .active ∨ b.state = .suspended then { c.outcome with endTime := some s.clock.siteTime } else c.outcome }

theorem cancelLift_eq (b : Booking) (s : State) : cancelLift b s = reportBooking b.id
    (if b.state = .active then giveUp b.crane (updateBooking b.id (cancelledRecord b s) s)
      else updateBooking b.id (cancelledRecord b s) s) := by
  have record : (fun c : Booking => if b.state = .active ∨ b.state = .suspended then ended s { c with state := .cancelled }
      else { c with state := .cancelled }) = cancelledRecord b s := by
    funext c
    unfold cancelledRecord
    split
    · rfl
    · rfl
  unfold cancelLift
  rw [record]

/-- Once its ACTIVE record is cancelled a crane has no other ACTIVE booking (R145). -/
theorem grounded_of_cancelled {b : Booking} {s : State} (table : TableSound s.bookings) (mem : b ∈ s.bookings)
    (active : b.state = .active) : activeBooking (updateBooking b.id (cancelledRecord b s) s) b.crane = none := by
  refine List.find?_eq_none.2 fun c hc flies => ?_
  rw [updateBooking_bookings] at hc
  obtain ⟨a, ha, rfl⟩ := List.mem_map.1 hc
  rw [Bool.and_eq_true, beq_iff_eq, beq_iff_eq] at flies
  obtain ⟨crane, state⟩ := flies
  split at crane
  · rename_i same
    rw [if_pos same] at state
    cases state
  · rename_i other
    rw [if_neg other] at state
    refine other (congrArg Booking.id (table.eq_of_flying ha mem crane (flying_iff.2 (.inl state)) (flying_iff.2 (.inl active))))

theorem terminal_iff {b : Booking} : b.state.terminal = true ↔ b.state ∈ [BookingState.done, .lapsed, .cancelled] := by
  cases h : b.state with
  | logged => decide
  | opened => decide
  | active => decide
  | suspended => decide
  | done => decide
  | lapsed => decide
  | cancelled => decide

theorem not_terminal_iff {b : Booking} :
    b.state.terminal = false ↔ b.state ∈ [BookingState.logged, .opened, .active, .suspended] := by
  cases h : b.state with
  | logged => decide
  | opened => decide
  | active => decide
  | suspended => decide
  | done => decide
  | lapsed => decide
  | cancelled => decide

theorem cancelBooking_of_found {tgt : Target} {id : Nat} {b : Booking} {s : State} (target : targetBooking tgt = some id)
    (found : findBooking s id = some b) :
    cancelBooking tgt s = if b.state.terminal then (.no .badState, s) else (.ok, cancelLift b s) := by
  rw [cancelBooking, target, Option.bind_some, found]

theorem retireBooking_of_found {tgt : Target} {id : Nat} {b : Booking} {s : State} (target : targetBooking tgt = some id)
    (found : findBooking s id = some b) : retireBooking tgt s
      = if b.state.terminal then (.ok, s.setBookings (s.bookings.filter fun c => !(c.id == b.id))) else (.no .badState, s) := by
  rw [retireBooking, target, Option.bind_some, found]

/-- Settles O59, by whether the record is there and terminal. -/
theorem cancelAndRetireBooking : Obligations.CancelAndRetireBooking := by
  intro tag tgt id s target
  refine ⟨fun b found => ⟨fun alive => ⟨?_, ?_⟩, fun over_ => ⟨?_, ?_⟩⟩, fun missing => ⟨?_, ?_⟩⟩
  · have judged : cancelBooking tgt s = (.ok, cancelLift b s) := by
      rw [cancelBooking_of_found target found, not_terminal_iff.2 alive, if_neg Bool.false_ne_true]
    have eq := cancelLift_eq b s
    have id_eq := id_of_findBooking found
    refine ⟨_, exec_answered (q := .cancelBooking) judged, rfl, ?_, fun idle => ?_, fun active table => ?_, ?_⟩
    · show (cancelLift b s).bookings = _
      have kept : (cancelLift b s).bookings = (updateBooking b.id (cancelledRecord b s) s).bookings := by
        rw [eq, (reportBooking_within _ _).bookings rfl]
        split
        · exact (giveUp_within _ _).bookings rfl
        · rfl
      rw [kept, updateBooking_bookings, id_eq]
      rfl
    · have quiet : Within { bookings := true } s (cancelLift b s) := by
        rw [eq, if_neg idle]
        exact (reportBooking_within _ _).after (updateBooking_within _ _ _)
      exact ⟨quiet.air rfl, quiet.vanes rfl⟩
    · show ((cancelLift b s).arb b.crane).reservation = none ∧ ∀ z taken, ((cancelLift b s).zone z).st ≠ _
      have air := (reportBooking_within b.id (giveUp b.crane (updateBooking b.id (cancelledRecord b s) s))).air rfl
      rw [eq, if_pos active]
      refine ⟨?_, fun z taken => ?_⟩
      · rw [arb_congr air, giveUp_reservation]
      · rw [zone_congr air]
        exact giveUp_noBookingHold (grounded_of_cancelled table (mem_of_findBooking found) active) z taken
    · exact congrArg (fun t : State => { t with sent := s.sent ++ [responseFrame .cancelBooking tag .ok] })
        (cancelLift_within b s).frame
  · refine exec_answered (q := .retireBooking) ?_
    rw [retireBooking_of_found target found, not_terminal_iff.2 alive, if_neg Bool.false_ne_true]
  · have judged : retireBooking tgt s = (.ok, s.setBookings (s.bookings.filter fun c => decide (c.id ≠ id))) := by
      rw [retireBooking_of_found target found, terminal_iff.2 over_, if_pos rfl, id_of_findBooking found]
      congr 2
      exact List.filter_congr fun c _ => by rw [beq_eq_decide, decide_not]
    exact exec_answered (q := .retireBooking) judged
  · refine exec_answered (q := .cancelBooking) ?_
    rw [cancelBooking_of_found target found, terminal_iff.2 over_, if_pos rfl]
  · refine exec_answered (q := .retireBooking) ?_
    rw [retireBooking, target, Option.bind_some, missing]
  · refine exec_answered (q := .cancelBooking) ?_
    rw [cancelBooking, target, Option.bind_some, missing]

end Sys2Proof.Machine

/-! PROOFS. BOOK LIFT that passes the tests of Figure 8-2 (R132 to R134). -/

namespace Sys2Proof.Machine

set_option Elab.async false

theorem zoneOf?_zoneNum (z : Zone) : zoneOf? (zoneNum z) = some z := by
  have low : 1 ≤ z.val + 1 ∧ z.val + 1 ≤ 64 := ⟨by omega, by omega⟩
  unfold zoneOf? zoneNum
  rw [dif_pos low]
  exact congrArg some (Fin.ext (Nat.add_sub_cancel z.val 1))

theorem craneOf?_craneNum (k : Crane) : craneOf? (k.val + 1) = some k := by
  have low : 1 ≤ k.val + 1 ∧ k.val + 1 ≤ 8 := ⟨by omega, by omega⟩
  unfold craneOf?
  rw [dif_pos low]
  exact congrArg some (Fin.ext (Nat.add_sub_cancel k.val 1))

theorem filterMap_zoneOf? (route : List Zone) : (route.map zoneNum).filterMap zoneOf? = route := by
  rw [List.filterMap_map]
  exact (List.filterMap_congr fun z _ => zoneOf?_zoneNum z).trans List.filterMap_some

/-- What the tests of Figure 8-2 ask of a plan for crane k on a route. -/
structure Passes (s : State) (id : Nat) (p : LiftPlan) (k : Crane) (route : List Zone) (prof : Profile) (c : Chart) : Prop where
  room : s.bookings.length < 32
  range : 1 ≤ id ∧ id ≤ 65535
  fresh : ∀ b ∈ s.bookings, b.id ≠ id
  crane : p.crane = k.val + 1
  profile : s.profile k = some prof
  present : prof.present = true
  chart : s.chart k = some c
  window : p.opens < p.closes ∧ s.clock.siteTime < p.closes
  entries : planEntries p = route.map zoneNum
  count : route.length = p.routeCount ∧ 1 ≤ p.routeCount ∧ p.routeCount ≤ 6
  zones : ∀ z ∈ route, zonePresent s z = true
  distinct : route.Nodup
  points : planPoints prof c p = none
  apart : ∀ b ∈ s.bookings, b.crane = k → b.state.terminal = false → windowsOverlap b p = false

/-- The record a plan makes. -/
def plannedRecord (s : State) (id : Nat) (p : LiftPlan) (k : Crane) (route : List Zone) : Booking :=
  { id := id, crane := k, opens := p.opens, closes := p.closes, load := p.load, pickSector := p.pickSector,
    pickRadius := p.pickRadius, setSector := p.setSector, setRadius := p.setRadius, route := route,
    state := if p.opens ≤ s.clock.siteTime then .opened else .logged, leg := 0, overtime := false, reason := none,
    suspensions := 0, outcome := .absent }

theorem findBooking_of_fresh {s : State} {id : Nat} (fresh : ∀ b ∈ s.bookings, b.id ≠ id) : findBooking s id = none :=
  List.find?_eq_none.2 fun b hb same => fresh b hb (beq_iff_eq.1 same)

/-- A plan that passes the tests is admitted with its record. -/
theorem admission_of_passes {s : State} {id : Nat} {p : LiftPlan} {k : Crane} {route : List Zone} {prof : Profile} {c : Chart}
    (h : Passes s id p k route prof c) : admission s id p = .ok (plannedRecord s id p k route) := by
  obtain ⟨opens, closes⟩ := h.window
  obtain ⟨length, some_zone, six⟩ := h.count
  have readable : routeReadable p = true := by
    rw [routeReadable, h.entries, List.length_map, length, beq_self_eq_true, Bool.true_and, List.all_map]
    exact List.all_eq_true.2 fun z _ => by rw [Function.comp_apply, zoneOf?_zoneNum]; rfl
  have allPresent : (route.any fun z => !zonePresent s z) = false :=
    List.any_eq_false.2 fun z hz absent => by rw [h.zones z hz] at absent; cases absent
  have noConflict : (s.bookings.any fun b => b.crane == k && !b.state.terminal && windowsOverlap b p) = false := by
    refine List.any_eq_false.2 fun b hb clash => ?_
    rw [Bool.and_eq_true, Bool.and_eq_true, beq_iff_eq, Bool.not_eq_true'] at clash
    obtain ⟨⟨crane, alive⟩, overlap⟩ := clash
    rw [h.apart b hb crane alive] at overlap
    cases overlap
  unfold admission
  rw [if_neg (by have := h.room; omega), if_neg (by have := h.range; omega), findBooking_of_fresh h.fresh]
  dsimp only
  rw [if_neg (by decide), h.crane, craneOf?_craneNum]
  dsimp only
  rw [h.profile, h.chart]
  dsimp only
  rw [h.present, if_neg (by decide), if_neg (by simp [opens, closes]), if_neg (by simp [readable]; omega), h.entries,
    filterMap_zoneOf?, allPresent, if_neg Bool.false_ne_true, if_neg (by simp [h.distinct]), h.points]
  dsimp only
  rw [noConflict, if_neg Bool.false_ne_true]
  rfl

/-- Settles O58, by the record that passes the tests. -/
theorem bookLiftStoresItsRecord : Obligations.BookLiftStoresItsRecord := by
  intro tag tgt id p k route prof c s target room low fresh crane profile present chart opens closes entries length some_zone six
    zones distinct pick set_ pickLow pickHigh setLow setHigh load pickRated setRated apart b
  have high : id ≤ 65535 := by
    unfold targetBooking at target
    split at target
    · cases target
      have := tgt.value.isLt
      omega
    · cases target
  have points : planPoints prof c p = none := by
    unfold planPoints
    dsimp only
    rw [if_neg (by simp [pick, set_, pickLow, pickHigh, setLow, setHigh, load]), if_neg (by omega)]
  have passes : Passes s id p k route prof c :=
    ⟨room, ⟨low, high⟩, fresh, crane, profile, present, chart, ⟨opens, closes⟩, entries, ⟨length, some_zone, six⟩, zones, distinct,
      points, fun a ha hk alive => by
        have := apart a ha hk (not_terminal_iff.1 alive)
        rw [windowsOverlap, Bool.and_eq_false_iff, decide_eq_false_iff_not, decide_eq_false_iff_not]
        omega⟩
  have judged : bookLift tgt p s = (.ok, reportBooking id (s.setBookings (s.bookings ++ [b]))) := by
    rw [bookLift, target]
    dsimp only
    rw [admission_of_passes passes]
    rfl
  have found : findBooking (s.setBookings (s.bookings ++ [b])) id = some b := by
    have before := findBooking_of_fresh fresh
    unfold findBooking at before ⊢
    rw [State.setBookings_bookings, List.find?_append, before, Option.none_or]
    exact List.find?_cons_of_pos (beq_self_eq_true id)
  have running : b.state ≠ .suspended := by
    show (if p.opens ≤ s.clock.siteTime then BookingState.opened else .logged) ≠ _
    split
    · exact nofun
    · exact nofun
  refine ⟨_, exec_answered (q := .bookLift) judged, rfl, ?_, ?_, ?_⟩
  · exact (reportBooking_within _ _).bookings rfl
  · exact (reportBooking_recorder (s := s) found running rfl rfl rfl).trans (by rw [Nat.zero_mul, Nat.add_zero])
  · have w : Within { bookings := true } s (reportBooking id (s.setBookings (s.bookings ++ [b]))) :=
      (reportBooking_within _ _).after (setBookings_within _ _)
    exact congrArg (fun t : State => { t with sent := s.sent ++ [responseFrame .bookLift tag .ok] }) w.frame

end Sys2Proof.Machine

/-! PROOFS. What an operation of the Zone Arbiter reads (R7, R44, R77), and where a released zone goes (R51, R52, R67). -/

namespace Sys2Proof.Machine

set_option Elab.async false

/-! ### What is read -/

/-- The entitlement is read from the site image and the access records (R77). -/
theorem mayUse_congr {s t : State} (site : t.site = s.site) (access : t.access = s.access) (k : Crane) (z : Zone) (u : Use) :
    mayUse t k z u = mayUse s k z u := by
  unfold mayUse zonePresent State.perm
  rw [site, access]

/-- The footprint is read from the pose and the site image (R7). -/
theorem footprint_congr {s t : State} (site : t.site = s.site) (poses : t.poses = s.poses) (k : Crane) :
    footprint t k = footprint s k := by
  unfold footprint footprintAt State.profile State.map
  rw [pose_congr poses, site]

theorem kindFor_eq (s : State) (k : Crane) (z : Zone) :
    kindFor s k z = if z ∈ currentLeg s k then .booking else .motion := by
  unfold kindFor
  by_cases h : z ∈ currentLeg s k
  · rw [if_pos (List.contains_iff_mem.2 h), if_pos h]
  · rw [if_neg (fun c => h (List.contains_iff_mem.1 c)), if_neg h]

/-! ### Other zones -/

theorem markVacate_other (z y : Zone) (c : VacateCause) (s : State) (h : y ≠ z) : (markVacate z c s).zone y = s.zone y := by
  unfold markVacate
  split
  · rfl
  split
  · rfl
  · rw [zone_congr (offer_air _ _), State.setZone_zone_ne _ _ _ _ h]

theorem judgeLimit_other (z y : Zone) (s : State) (h : y ≠ z) : (judgeLimit z s).zone y = s.zone y := by
  unfold judgeLimit
  split
  · exact markVacate_other z y _ s h
  · rfl

theorem refreshEntry_other (c : Crane) (z y : Zone) (s : State) (h : y ≠ z) : (refreshEntry c z s).zone y = s.zone y :=
  State.setZone_zone_ne _ _ _ _ h

theorem joinQueue_other (c : Crane) (z y : Zone) (s : State) (h : y ≠ z) : (joinQueue c z s).zone y = s.zone y := by
  unfold joinQueue
  split
  · exact refreshEntry_other c z y s h
  · dsimp only
    rw [judgeLimit_other z y _ h, State.setZone_zone_ne _ _ _ _ h]

/-- A mark is all a judgement of the hold limit changes of its zone. -/
theorem judgeLimit_kept (z : Zone) (s : State) : ((judgeLimit z s).zone z).st = (s.zone z).st
    ∧ ((judgeLimit z s).zone z).sweepPending = (s.zone z).sweepPending ∧ ((judgeLimit z s).zone z).queue = (s.zone z).queue := by
  unfold judgeLimit markVacate
  split
  · split
    · exact ⟨rfl, rfl, rfl⟩
    split
    · exact ⟨rfl, rfl, rfl⟩
    · rw [zone_congr (offer_air _ _), State.setZone_zone_self]
      exact ⟨rfl, rfl, rfl⟩
  · exact ⟨rfl, rfl, rfl⟩

theorem withdrawReservation_of_none {c : Crane} {s : State} (h : (s.arb c).reservation = none) : withdrawReservation c s = s := by
  unfold withdrawReservation
  rw [h]

/-- A reservation is never placed on a zone its crane holds (R55). -/
theorem reservationZone_not_held {s : State} {k : Crane} {z : Zone} (h : reservationZone s k = some z) :
    isHolder s k z = false := by
  unfold reservationZone at h
  split at h
  · cases h
  · rename_i y found
    split at h
    · cases h
      simpa using List.find?_some found
    · cases h

theorem placeReservation_zone_of_holder {k : Crane} {z : Zone} {s : State} (held : isHolder s k z = true)
    (unreserved : (s.arb k).reservation = none) : (placeReservation k s).zone z = s.zone z := by
  unfold placeReservation
  rw [withdrawReservation_of_none unreserved]
  split
  · rfl
  · rename_i y found
    have ne : z ≠ y := by
      rintro rfl
      cases held.symm.trans (reservationZone_not_held found)
    dsimp only
    rw [joinQueue_other _ _ _ _ ne, State.setArb_zone, ite_self]

/-! ### The crane whose entry is taken out -/

theorem dropEntry_arb_self (c : Crane) (z : Zone) (s : State) :
    (waitsAt s c z = true → ((dropEntry c z s).arb c).motionWait = none)
      ∧ (reservesAt s c z = true → ((dropEntry c z s).arb c).reservation = none) := by
  unfold dropEntry
  dsimp only
  rw [removeEntry_arb, State.setArb_arb_self]
  refine ⟨fun waits => ?_, fun reserves => ?_⟩
  · rw [if_pos waits]
    split
    · rfl
    · rfl
  · rw [if_pos reserves]

/-! ### Grants (R52) -/

/-- The record of a granted zone and the wait of its new holder. -/
theorem grant_zone {c : Crane} {z : Zone} {s : State} (unmarked : (s.zone z).vacate = false) :
    ((grant c z s).zone z).sweepPending = (s.zone z).sweepPending
      ∧ ((grant c z s).zone z).queue = (s.zone z).queue.filter (fun e => !(e.crane == c)) := by
  have taken : (acquire c z (kindFor (dropEntry c z s) c z) (dropEntry c z s)).zone z
      = { s.zone z with st := .held c (kindFor (dropEntry c z s) c z) (dropEntry c z s).now, vacate := false
                        queue := (s.zone z).queue.filter fun e => !(e.crane == c) } := by
    rw [acquire, State.setZone_zone_self, dropEntry_zone c z s unmarked]
  have holder : isHolder (acquire c z (kindFor (dropEntry c z s) c z) (dropEntry c z s)) c z = true := by
    unfold isHolder ZoneRec.holder
    rw [acquire_st_self]
    exact beq_self_eq_true _
  unfold grant
  dsimp only
  obtain ⟨-, pending, queue⟩ := judgeLimit_kept z (if reservesAt s c z
    then placeReservation c (acquire c z (kindFor (dropEntry c z s) c z) (dropEntry c z s))
    else acquire c z (kindFor (dropEntry c z s) c z) (dropEntry c z s))
  rw [pending, queue]
  split
  · rename_i reserves
    have unreserved : ((acquire c z (kindFor (dropEntry c z s) c z) (dropEntry c z s)).arb c).reservation = none :=
      (dropEntry_arb_self c z s).2 reserves
    rw [placeReservation_zone_of_holder holder unreserved, taken]
    exact ⟨rfl, rfl⟩
  · rw [taken]
    exact ⟨rfl, rfl⟩

theorem grant_motionWait {c : Crane} {z : Zone} {s : State} (waits : waitsAt s c z = true) :
    ((grant c z s).arb c).motionWait = none := by
  have dropped : ((acquire c z (kindFor (dropEntry c z s) c z) (dropEntry c z s)).arb c).motionWait = none :=
    (dropEntry_arb_self c z s).1 waits
  unfold grant
  dsimp only
  rw [judgeLimit_arb]
  split
  · rcases (WaitsFall.placeReservation c _).wait c with same | gone
    · exact same.trans dropped
    · exact gone
  · exact dropped

/-! ### The order of the candidates (R51) -/

/-- The first candidate is the first BOOKED or RESERVE entry, or else the first of the queue. -/
theorem grantOrder_head (q : List Entry) :
    (grantOrder q).head? = (q.find? fun e => decide (e.cls ≠ .routine)).or q.head? := by
  have first : (q.filter fun e => e.cls != .routine).head? = q.find? fun e => decide (e.cls ≠ .routine) := by
    rw [List.head?_filter]
    refine List.find?_congr fun e _ => ?_
    rw [bne, beq_eq_decide, decide_not]
  unfold grantOrder
  rw [List.head?_append, first]
  cases found : q.find? fun e => decide (e.cls ≠ .routine) with
  | some e => rfl
  | none =>
    have routine : ∀ e ∈ q, (e.cls == .routine) = true := fun e he => by
      simpa using List.find?_eq_none.1 found e he
    rw [Option.none_or, Option.none_or, List.filter_eq_self.2 routine]

theorem mem_grantOrder {q : List Entry} {e : Entry} : e ∈ grantOrder q ↔ e ∈ q := by
  unfold grantOrder
  rw [List.mem_append, List.mem_filter, List.mem_filter]
  constructor
  · rintro (⟨h, -⟩ | ⟨h, -⟩)
    · exact h
    · exact h
  · intro h
    by_cases routine : e.cls = .routine
    · exact .inr ⟨h, by rw [routine]; rfl⟩
    · exact .inl ⟨h, by simpa using routine⟩

theorem offerGrant_of_usable {z : Zone} {e : Entry} {es : List Entry} {s : State} (may : mayUse s e.crane z e.use = true) :
    offerGrant z (e :: es) s = grant e.crane z s := by
  unfold offerGrant
  exact if_pos may

/-- When no candidate may use the zone, its record keeps only the entries of other cranes. -/
theorem offerGrant_of_unusable {z : Zone} {es : List Entry} {s : State} (unmarked : (s.zone z).vacate = false)
    (barred : ∀ e ∈ es, mayUse s e.crane z e.use = false) : (offerGrant z es s).zone z
      = { s.zone z with queue := (s.zone z).queue.filter fun d => es.all fun e => !(d.crane == e.crane) } := by
  induction es generalizing s with
  | nil =>
    show s.zone z = _
    simp
  | cons e es ih =>
    have w : Within { air := true } s (offer { kind := .waitDropped, crane := some e.crane, zone := some z }
        (dropEntry e.crane z s)) := (offer_within _ _).after (dropEntry_within _ _ _)
    have dropped : (offer { kind := .waitDropped, crane := some e.crane, zone := some z } (dropEntry e.crane z s)).zone z
        = { s.zone z with queue := (s.zone z).queue.filter fun d => !(d.crane == e.crane) } := by
      rw [zone_congr (offer_air _ _), dropEntry_zone _ _ _ unmarked]
    unfold offerGrant
    rw [if_neg (by rw [barred e List.mem_cons_self]; exact Bool.false_ne_true), ih (by rw [dropped]; exact unmarked)
      fun d hd => (mayUse_congr (w.site rfl) (w.access rfl) _ _ _).trans (barred d (List.mem_cons_of_mem _ hd)), dropped]
    simp only [List.filter_filter, List.all_cons, Bool.and_comm]

/-! ### Releases (R51) -/

/-- The state in which a zone stands FREE while its next holder is looked for. -/
def vacated (z : Zone) (s : State) : State := s.setZone z { s.zone z with st := .free, vacate := false }

theorem vacated_zone (z : Zone) (s : State) : (vacated z s).zone z = { s.zone z with st := .free, vacate := false } :=
  State.setZone_zone_self ..

theorem release_of_pending {z : Zone} {s : State} {c : Crane} (h : (s.zone z).sweepPending = some c) :
    (release z s).zone z = { st := .swept c s.now, vacate := false, sweepPending := none,
                             queue := (s.zone z).queue.filter fun e => decide (e.crane ≠ c) } := by
  have dropped := dropEntry_zone c z (vacated z s) (by rw [vacated_zone])
  rw [vacated_zone] at dropped
  unfold release
  rw [h]
  dsimp only
  rw [zone_congr ((checkVaning_within _ _).air rfl), State.setZone_zone_self]
  rw [show s.setZone z { s.zone z with st := .free, vacate := false } = vacated z s from rfl, dropped]
  congr 1
  exact List.filter_congr fun e _ => by rw [beq_eq_decide, decide_not]

theorem release_of_unpending {z : Zone} {s : State} (h : (s.zone z).sweepPending = none) :
    release z s = offerGrant z (grantOrder (s.zone z).queue) (vacated z s) := by
  unfold release
  rw [h]
  rfl

/-- A released zone that no waiting crane may use becomes FREE. -/
theorem release_of_unusable {z : Zone} {s : State} (unpending : (s.zone z).sweepPending = none)
    (barred : ∀ e ∈ (s.zone z).queue, mayUse s e.crane z e.use = false) :
    (release z s).zone z = { st := .free, vacate := false, sweepPending := none, queue := [] } := by
  have dropped := offerGrant_of_unusable (z := z) (s := vacated z s) (es := grantOrder (s.zone z).queue)
    (by rw [vacated_zone]) fun e he => barred e (mem_grantOrder.1 he)
  have emptied : ((s.zone z).queue.filter fun d => (grantOrder (s.zone z).queue).all fun e => !(d.crane == e.crane)) = [] :=
    List.filter_eq_nil_iff.2 fun d hd others => by
      have := List.all_eq_true.1 others d (mem_grantOrder.2 hd)
      simp at this
  rw [release_of_unpending unpending, dropped, vacated_zone]
  exact (ZoneRec.mk.injEq ..).mpr ⟨rfl, rfl, unpending, emptied⟩

theorem forceReleaseZone_of_held {tgt : Target} {z : Zone} {s : State} (target : targetZone tgt = some z)
    (present : zonePresent s z = true) (operating : s.mode = .operating) (held : (s.zone z).heldBy.isSome = true) :
    forceReleaseZone tgt s = (.ok, release z s) := by
  rw [forceReleaseZone, target]
  dsimp only
  rw [present, if_neg (by decide), if_neg (by rw [operating]; exact nofun), if_neg fun none => by
    rw [Option.isNone_iff_eq_none.1 none] at held
    cases held]

/-- Settles O37, by who waits for the zone. -/
theorem forceReleaseZonePassesTheZoneOn : Obligations.ForceReleaseZonePassesTheZoneOn := by
  intro tag tgt z s target present operating held r
  have judged := forceReleaseZone_of_held target present operating held
  refine ⟨_, exec_answered (q := .forceReleaseZone) judged, rfl, fun c pending => release_of_pending pending,
    fun unpending e first may => ?_, fun unpending barred => ?_, fun y h => release_st_ne z s h, ?_⟩
  · show ((release z s).zone z).st = _ ∧ ((release z s).zone z).sweepPending = none ∧ _
      ∧ (_ → ((release z s).arb e.crane).motionWait = none)
    have order : ∃ es, grantOrder r.queue = e :: es := by
      cases candidates : grantOrder r.queue with
      | nil =>
        rw [← grantOrder_head, candidates] at first
        cases first
      | cons d es =>
        rw [← grantOrder_head, candidates] at first
        cases first
        exact ⟨es, rfl⟩
    obtain ⟨es, candidates⟩ := order
    have granted : release z s = grant e.crane z (vacated z s) := by
      rw [release_of_unpending unpending, candidates]
      exact offerGrant_of_usable may
    obtain ⟨pending, queue⟩ := grant_zone (c := e.crane) (s := vacated z s) (z := z) (by rw [vacated_zone])
    refine ⟨?_, ?_, ?_, fun waits => ?_⟩
    · rw [granted, grant_st, if_pos rfl, ← kindFor_eq]
      rfl
    · rw [granted, pending, vacated_zone]
      exact unpending
    · show ((release z s).zone z).queue.map _ = _
      rw [granted, queue, vacated_zone]
      refine congrArg (List.map _) (List.filter_congr fun d _ => ?_)
      rw [beq_eq_decide, decide_not]
    · rw [granted]
      refine grant_motionWait ?_
      obtain ⟨w, wait, zone⟩ := Option.map_eq_some_iff.1 waits
      unfold waitsAt
      rw [show ((vacated z s).arb e.crane).motionWait = some w from wait]
      exact beq_iff_eq.2 zone
  · exact release_of_unusable unpending barred
  · exact congrArg (fun t : State => { t with sent := s.sent ++ [responseFrame .forceReleaseZone tag .ok] })
      (release_within z s).frame

end Sys2Proof.Machine

/-! PROOFS. The footprint step and the release step of a pose, zone by zone (R44, R47 to R50, R78). -/

namespace Sys2Proof.Machine

set_option Elab.async false

/-! ### Legs under a change of outcomes -/

/-- A change of an outcome leaves every crane's current leg. -/
theorem currentLeg_outcome (id : Nat) (f : LiftOutcome → LiftOutcome) (s : State) (k : Crane) :
    currentLeg (updateBooking id (fun b => { b with outcome := f b.outcome }) s) k = currentLeg s k := by
  have found : activeBooking (updateBooking id (fun b => { b with outcome := f b.outcome }) s) k
      = (activeBooking s k).map fun b => if b.id = id then { b with outcome := f b.outcome } else b := by
    unfold activeBooking
    rw [updateBooking_bookings, List.find?_map]
    congr 1
    refine List.find?_congr fun b _ => ?_
    show (_ : Bool) = _
    rw [Function.comp_apply]
    split
    · rfl
    · rfl
  unfold currentLeg
  rw [found]
  cases activeBooking s k with
  | none => rfl
  | some b =>
    show legZones (if b.id = id then { b with outcome := f b.outcome } else b) = legZones b
    split
    · rfl
    · rfl

theorem countIntrusion_currentLeg (j : Crane) (s : State) (k : Crane) :
    currentLeg (countIntrusion j s) k = currentLeg s k := by
  have counted : currentLeg (count j .intrusions 1 s) k = currentLeg s k :=
    AirClosed.currentLeg_congr ((count_within _ _ _ _).bookings rfl) k
  unfold countIntrusion
  dsimp only
  split
  · exact counted
  · rename_i b _
    exact (currentLeg_outcome b.id (fun o => { o with intrusions := some (min 65535 (o.intrusions.getD 0 + 1)) }) _ k).trans
      counted

/-! ### The footprint step (R47, R50, R78) -/

/-- What the steps of a footprint leave: the instant, the entitlements and the legs. -/
structure Judging (s t : State) : Prop where
  now : t.now = s.now
  site : t.site = s.site
  access : t.access = s.access
  leg : ∀ k, currentLeg t k = currentLeg s k

namespace Judging

variable {s t u : State}

theorem refl (s : State) : Judging s s := ⟨rfl, rfl, rfl, fun _ => rfl⟩

theorem trans (h : Judging s t) (h' : Judging t u) : Judging s u :=
  ⟨h'.now.trans h.now, h'.site.trans h.site, h'.access.trans h.access, fun k => (h'.leg k).trans (h.leg k)⟩

theorem of_within {w : Touch} (h : Within w s t) (site : w.site = false := by rfl) (access : w.access = false := by rfl)
    (bookings : w.bookings = false := by rfl) : Judging s t :=
  ⟨h.now, h.site site, h.access access, fun k => AirClosed.currentLeg_congr (h.bookings bookings) k⟩

theorem within {w : Touch} (h : Judging s t) (h' : Within w t u) (site : w.site = false := by rfl)
    (access : w.access = false := by rfl) (bookings : w.bookings = false := by rfl) : Judging s u :=
  h.trans (of_within h' site access bookings)

theorem countIntrusion (h : Judging s t) (j : Crane) : Judging s (countIntrusion j t) := by
  have w := countIntrusion_within j t
  exact h.trans ⟨w.now, w.site rfl, w.access rfl, countIntrusion_currentLeg j t⟩

theorem mayUse (h : Judging s t) (k : Crane) (z : Zone) (u : Use) : mayUse t k z u = mayUse s k z u :=
  mayUse_congr h.site h.access k z u

theorem kindFor (h : Judging s t) (k : Crane) (z : Zone) : kindFor t k z = kindFor s k z := by
  unfold Machine.kindFor
  rw [h.leg]

theorem footprintZone (h : Judging s t) (k : Crane) (f : List Occ) (settling : Bool) (old : List Zone) (z : Zone) :
    Judging s (footprintZone k f settling old t z) := by
  unfold Machine.footprintZone
  split
  · exact h
  split
  · split
    · exact h
    · exact ((h.within (count_within _ _ _ _)).within (offer_within _ _)).within (trigger_within _ _ _ _)
  split
  · split
    · exact h.within (acquire_within _ _ _ _)
    · exact (((h.within (acquire_within _ _ _ _)).countIntrusion k).within (offer_within _ _)).within (trigger_within _ _ _ _)
  · split
    · exact (h.within (acquire_within _ _ _ _)).within (offer_within _ _)
    · exact (((h.within (acquire_within _ _ _ _)).countIntrusion k).within (offer_within _ _)).within (trigger_within _ _ _ _)

end Judging

theorem countIntrusion_zone (j : Crane) (s : State) (z : Zone) : (countIntrusion j s).zone z = s.zone z :=
  zone_congr ((countIntrusion_within j s).air rfl) z

/-- What the footprint step makes of a zone's record before the entitlement is asked (R47, R50). -/
def enteredRecord (k : Crane) (f : List Occ) (s : State) (z : Zone) : ZoneRec :=
  match useIn f z, (s.zone z).holder with
  | some u, none => { s.zone z with st := .held k (if mayUse s k z u = true then kindFor s k z else .exitOnly) s.now,
                                    vacate := false }
  | _, _ => s.zone z

theorem footprintZone_zone (k : Crane) (f : List Occ) (settling : Bool) (old : List Zone) (s : State) (y z : Zone) :
    (footprintZone k f settling old s y).zone z = if z = y then enteredRecord k f s z else s.zone z := by
  have acquired (h : HoldKind) : (acquire k y h s).zone z
      = if z = y then { s.zone z with st := .held k h s.now, vacate := false } else s.zone z := by
    rw [acquire, State.setZone_zone]
    split
    · rename_i at_
      rw [at_]
    · rfl
  have same : s.zone z = if z = y then s.zone z else s.zone z := (ite_self _).symm
  unfold footprintZone enteredRecord
  cases used : useIn f y with
  | none =>
    by_cases at_ : z = y
    · rw [at_, used, if_pos rfl]
    · rw [if_neg at_]
  | some u =>
    cases taken : (s.zone y).holder with
    | some j =>
      dsimp only
      have kept : (overlap k y j s).zone z = s.zone z := by
        rw [overlap, zone_congr ((trigger_within _ _ _ _).air rfl), zone_congr (offer_air _ _),
          zone_congr ((count_within _ _ _ _).air rfl)]
      have either : (if j = k ∨ y ∈ old then s else overlap k y j s).zone z = s.zone z := by
        split
        · rfl
        · exact kept
      rw [either]
      by_cases at_ : z = y
      · rw [at_, used, taken, if_pos rfl]
      · rw [if_neg at_]
    | none =>
      dsimp only
      have entitled : (if settling = true then acquire k y (kindFor s k y) s else intrude k y s).zone z
          = (acquire k y (kindFor s k y) s).zone z := by
        split
        · rfl
        · rw [intrude, zone_congr ((trigger_within _ _ _ _).air rfl), zone_congr (offer_air _ _), countIntrusion_zone]
      have barred : (if settling = true then takeExitOnly k y u s else breach k y u s).zone z
          = (acquire k y .exitOnly s).zone z := by
        split
        · rw [takeExitOnly, zone_congr (offer_air _ _)]
        · rw [breach, zone_congr ((trigger_within _ _ _ _).air rfl), zone_congr (offer_air _ _), countIntrusion_zone]
      by_cases at_ : z = y
      · subst at_
        rw [used, taken, if_pos rfl]
        dsimp only
        split
        · rw [entitled, acquired, if_pos rfl]
        · rw [barred, acquired, if_pos rfl]
      · rw [if_neg at_]
        split
        · rw [entitled, acquired, if_neg at_]
        · rw [barred, acquired, if_neg at_]

theorem enteredRecord_congr {s t : State} (h : Judging s t) {z : Zone} (zone : t.zone z = s.zone z) (k : Crane) (f : List Occ) :
    enteredRecord k f t z = enteredRecord k f s z := by
  unfold enteredRecord
  rw [zone, h.now]
  split
  · rw [h.mayUse, h.kindFor]
  · rfl

/-- What the entitlement of a zone held by crane k makes of its record (R78). -/
def entitledRecord (k : Crane) (f : List Occ) (s : State) (z : Zone) (r : ZoneRec) : ZoneRec :=
  match useIn f z with
  | none => r
  | some u => if r.heldBy = some k ∧ mayUse s k z u = false then r.withKind .exitOnly else r

theorem withKind_of_kind {r : ZoneRec} {h : HoldKind} (kind : r.kind = some h) : r.withKind h = r := by
  unfold ZoneRec.kind at kind
  unfold ZoneRec.withKind
  split
  · rename_i k old t at_
    rw [at_] at kind
    cases kind
    rw [← at_]
  · rfl

theorem entitlementZone_zone (k : Crane) (f : List Occ) (s : State) (y z : Zone) :
    (entitlementZone k f s y).zone z = if z = y then entitledRecord k f s z (s.zone z) else s.zone z := by
  unfold entitlementZone entitledRecord
  cases used : useIn f y with
  | none =>
    by_cases at_ : z = y
    · rw [at_, used, if_pos rfl]
    · rw [if_neg at_]
  | some u =>
    dsimp only
    by_cases at_ : z = y
    · subst at_
      rw [used, if_pos rfl]
      dsimp only
      by_cases hit : isHeldBy s k z = true ∧ (s.zone z).kind ≠ some .exitOnly ∧ mayUse s k z u = false
      · have ⟨held, _, barred⟩ := hit
        rw [if_pos hit, if_pos ⟨beq_iff_eq.1 held, barred⟩, zone_congr ((trigger_within _ _ _ _).air rfl),
          zone_congr (offer_air _ _), setKind, State.setZone_zone_self]
      · rw [if_neg hit]
        split
        · rename_i both
          obtain ⟨held, barred⟩ := both
          have kind : (s.zone z).kind = some .exitOnly := by
            by_contra other
            exact hit ⟨beq_iff_eq.2 held, other, barred⟩
          rw [withKind_of_kind kind]
        · rfl
    · rw [if_neg at_]
      split
      · rw [zone_congr ((trigger_within _ _ _ _).air rfl), zone_congr (offer_air _ _), setKind,
          State.setZone_zone_ne _ _ _ _ at_]
      · rfl

theorem entitlementZone_arb (k : Crane) (f : List Occ) (s : State) (z : Zone) (j : Crane) :
    (entitlementZone k f s z).arb j = s.arb j := by
  unfold entitlementZone
  split
  · rfl
  split
  · rw [arb_congr ((trigger_within _ _ _ _).air rfl), arb_congr (offer_air _ _), setKind, State.setZone_arb]
  · rfl

/-- The state in which the zones of the footprint are taken and the overlaps collected. -/
def enteredState (k : Crane) (f : List Occ) (settling : Bool) (s : State) : State :=
  let s1 := allZones.foldl (footprintZone k f settling (s.arb k).overlaps) s
  s1.setArb k { s1.arb k with overlaps := overlapZones s k f }

theorem enteredState_judging (k : Crane) (f : List Occ) (settling : Bool) (s : State) :
    Judging s (enteredState k f settling s) :=
  (foldl_keeps (P := Judging s) (fun _ z ht => ht.footprintZone k f settling _ z) _ _ (.refl s)).within (setArb_within _ _ _)

theorem enteredState_zone (k : Crane) (f : List Occ) (settling : Bool) (s : State) (z : Zone) :
    (enteredState k f settling s).zone z = enteredRecord k f s z := by
  obtain ⟨t, judging, same, at_⟩ := foldl_zones_at (f := footprintZone k f settling (s.arb k).overlaps) (I := Judging s)
    (read := fun t => t.zone z) (s := s) (fun t y ht => ht.footprintZone k f settling _ y)
    (fun t y _ h => by rw [footprintZone_zone, if_neg h.symm]) (.refl s)
  show (allZones.foldl (footprintZone k f settling (s.arb k).overlaps) s).zone z = _
  rw [at_, footprintZone_zone, if_pos rfl, enteredRecord_congr judging same]

theorem footprintStep_zone (k : Crane) (f : List Occ) (settling : Bool) (s : State) (z : Zone) :
    (footprintStep k f settling s).zone z = entitledRecord k f s z (enteredRecord k f s z) := by
  have entered := enteredState_judging k f settling s
  obtain ⟨t, judging, same, at_⟩ := foldl_zones_at (f := entitlementZone k f) (I := Judging s) (read := fun t => t.zone z)
    (s := enteredState k f settling s) (fun t y ht => ht.within (entitlementZone_within k f t y))
    (fun t y _ h => by rw [entitlementZone_zone, if_neg h.symm]) entered
  show (allZones.foldl (entitlementZone k f) (enteredState k f settling s)).zone z = _
  rw [at_, entitlementZone_zone, if_pos rfl, same, enteredState_zone]
  unfold entitledRecord
  split
  · rfl
  · rw [judging.mayUse]

theorem footprintStep_overlaps (k : Crane) (f : List Occ) (settling : Bool) (s : State) :
    ((footprintStep k f settling s).arb k).overlaps = overlapZones s k f := by
  have kept : (footprintStep k f settling s).arb k = (enteredState k f settling s).arb k :=
    foldl_keeps (P := fun t => t.arb k = (enteredState k f settling s).arb k)
      (fun t z ht => (entitlementZone_arb k f t z k).trans ht) _ _ rfl
  rw [kept, enteredState, State.setArb_arb_self]

theorem enteredRecord_of_holder {k : Crane} {f : List Occ} {s : State} {z : Zone} {j : Crane} (h : (s.zone z).holder = some j) :
    enteredRecord k f s z = s.zone z := by
  unfold enteredRecord
  rw [h]
  cases useIn f z with
  | none => rfl
  | some u => rfl

theorem enteredRecord_of_free {k : Crane} {f : List Occ} {s : State} {z : Zone} {u : Use} (used : useIn f z = some u)
    (free : (s.zone z).st = .free) : enteredRecord k f s z
      = { s.zone z with st := .held k (if mayUse s k z u = true then kindFor s k z else .exitOnly) s.now, vacate := false } := by
  unfold enteredRecord
  rw [used, ZoneRec.holder, free]

theorem entitledRecord_of_use {k : Crane} {f : List Occ} {s : State} {z : Zone} {u : Use} (used : useIn f z = some u)
    (r : ZoneRec) : entitledRecord k f s z r
      = if r.heldBy = some k ∧ mayUse s k z u = false then r.withKind .exitOnly else r := by
  unfold entitledRecord
  rw [used]

/-- Settles O38, zone by zone. -/
theorem footprintStepTakesTheFootprint : Obligations.FootprintStepTakesTheFootprint := by
  intro k f settling s t z
  have record := footprintStep_zone k f settling s z
  have overlaps : z ∈ (t.arb k).overlaps ↔ (useIn f z).isSome = true ∧ ∃ j, (s.zone z).holder = some j ∧ j ≠ k := by
    rw [footprintStep_overlaps, mem_overlapZones]
  have entitled {u : Use} {r : ZoneRec} (may : mayUse s k z u = true) : ¬(r.heldBy = some k ∧ mayUse s k z u = false) :=
    fun h => Bool.false_ne_true (h.2.symm.trans may)
  refine ⟨fun unused => ⟨?_, ?_⟩, fun u used => ⟨fun free may => ?_, fun free barred => ?_, fun j holder ne => ?_, ?_,
    fun kind taken held => ?_, fun taken swept => ?_⟩⟩
  · rw [record, entitledRecord, enteredRecord, unused]
  · rw [overlaps, unused]
    exact fun h => (nomatch h.1)
  · rw [record, entitledRecord_of_use used, enteredRecord_of_free used free, if_pos may, if_neg (entitled may),
      kindFor_eq]
  · rw [record, entitledRecord_of_use used, enteredRecord_of_free used free, barred, if_neg Bool.false_ne_true,
      if_pos ⟨rfl, rfl⟩]
    rfl
  · rw [record, entitledRecord_of_use used, enteredRecord_of_holder holder]
    refine if_neg fun h => ne ?_
    obtain ⟨kind, taken, at_⟩ := heldBy_eq_some.1 h.1
    rw [ZoneRec.holder, at_] at holder
    cases holder
    rfl
  · rw [overlaps, used]
    exact ⟨fun h => h.2, fun h => ⟨rfl, h⟩⟩
  · rw [record, entitledRecord_of_use used, enteredRecord_of_holder (j := k) (by rw [ZoneRec.holder, held])]
    by_cases may : mayUse s k z u = true
    · rw [if_pos may, if_neg (entitled may), ← held]
    · rw [if_neg may, if_pos ⟨heldBy_eq_some.2 ⟨_, _, held⟩, Bool.eq_false_of_not_eq_true may⟩, ZoneRec.withKind, held]
  · rw [record, entitledRecord_of_use used, enteredRecord_of_holder (j := k) (by rw [ZoneRec.holder, swept])]
    refine if_neg fun h => ?_
    rw [ZoneRec.heldBy, swept] at h
    cases h.1

/-! ### The release step (R49) -/

/-- A released zone does not go back to the crane that held it. -/
theorem release_not_held {s : State} {z : Zone} {k : Crane} (sound : (s.zone z).Sound) (held : (s.zone z).holder = some k)
    (kind : HoldKind) (taken : Nat) : ((release z s).zone z).st ≠ .held k kind taken := by
  obtain ⟨-, -, -, others, -⟩ := sound
  cases pending : (s.zone z).sweepPending with
  | some c =>
    rw [release_of_pending pending]
    exact nofun
  | none =>
    rw [release_of_unpending pending]
    rcases offerGrant_st z (grantOrder (s.zone z).queue) (vacated z s) with h | ⟨e, he, h⟩
    · rw [h, vacated_zone]
      exact nofun
    · rw [h, if_pos rfl]
      intro same
      obtain ⟨crane, -, -⟩ := ZoneState.held.inj same
      exact others e (mem_grantOrder.1 he) (held.trans (congrArg some crane.symm))

theorem toMotion_st {z : Zone} {s : State} {k : Crane} {kind : HoldKind} {taken : Nat} (held : (s.zone z).st = .held k kind taken)
    (y : Zone) : ((toMotion z s).zone y).st = if y = z then .held k .motion taken else (s.zone y).st := by
  rw [toMotion, judgeLimit_st]
  split
  · rename_i at_
    rw [at_, setKind, State.setZone_zone_self, ZoneRec.withKind, held]
  · rename_i ne
    exact setKind_st_ne z _ s ne

theorem releaseZone_st_ne (k : Crane) (f reach : List Occ) (brake : Bool) (s : State) {y z : Zone} (h : y ≠ z) :
    ((releaseZone k f reach brake s y).zone z).st = (s.zone z).st := by
  have gone : ((release y s).zone z).st = (s.zone z).st := release_st_ne y s h.symm
  have pick {c : Prop} [Decidable c] {a b : State} (ha : (a.zone z).st = (s.zone z).st) (hb : (b.zone z).st = (s.zone z).st) :
      ((if c then a else b).zone z).st = (s.zone z).st := by
    split
    · exact ha
    · exact hb
  unfold releaseZone
  dsimp only
  split
  · rfl
  · rfl
  rename_i j kind taken at_
  have moved : ((toMotion y s).zone z).st = (s.zone z).st := (toMotion_st at_ z).trans (if_neg h.symm)
  refine pick rfl ?_
  cases kind with
  | exitOnly => exact pick rfl gone
  | booking => exact pick gone rfl
  | motion => exact pick (pick rfl gone) (pick rfl gone)
  | frozen => exact pick rfl (pick (pick moved gone) (pick moved gone))

/-- What a crane may still hold of a zone after the release step with the slew brake set. -/
def StaysHeld (f reach : List Occ) (z : Zone) (kind : HoldKind) : Prop :=
  kind ≠ .frozen ∧ (kind = .motion → (useIn f z).isSome = true ∨ (useIn reach z).isSome = true)
    ∧ (kind = .exitOnly → (useIn f z).isSome = true)

theorem releaseZone_stays {k : Crane} {f reach : List Occ} {s : State} {z : Zone} (sound : (s.zone z).Sound) {kind : HoldKind}
    {taken : Nat} (h : ((releaseZone k f reach false s z).zone z).st = .held k kind taken) : StaysHeld f reach z kind := by
  unfold releaseZone at h
  dsimp only at h
  split at h
  · rename_i free
    cases free.symm.trans h
  · rename_i swept
    cases swept.symm.trans h
  rename_i j old since at_
  have exit : (useIn f z).isSome = true → StaysHeld f reach z .exitOnly := fun inF => ⟨nofun, nofun, fun _ => inF⟩
  have booking : StaysHeld f reach z .booking := ⟨nofun, nofun, nofun⟩
  have motion : ((useIn f z).isSome = true ∨ (useIn reach z).isSome = true) → StaysHeld f reach z .motion :=
    fun near => ⟨nofun, fun _ => near, nofun⟩
  by_cases own : j = k
  · subst own
    have gone : ((release z s).zone z).st ≠ .held j kind taken := release_not_held sound (by rw [ZoneRec.holder, at_]) kind taken
    have moved : ((toMotion z s).zone z).st = .held j .motion since := (toMotion_st at_ z).trans (if_pos rfl)
    rw [if_neg (not_not.2 rfl)] at h
    cases old with
    | exitOnly =>
      dsimp only at h
      split at h
      · rename_i inF
        cases at_.symm.trans h
        exact exit inF
      · exact absurd h gone
    | booking =>
      dsimp only at h
      split at h
      · exact absurd h gone
      · cases at_.symm.trans h
        exact booking
    | motion =>
      dsimp only at h
      split at h
      · split at h
        · rename_i inF
          cases at_.symm.trans h
          exact motion (.inl inF)
        · exact absurd h gone
      · split at h
        · rename_i inR
          cases at_.symm.trans h
          exact motion (.inr inR)
        · exact absurd h gone
    | frozen =>
      dsimp only at h
      rw [if_neg Bool.false_ne_true] at h
      split at h
      · split at h
        · rename_i inF
          cases moved.symm.trans h
          exact motion (.inl inF)
        · exact absurd h gone
      · split at h
        · rename_i inR
          cases moved.symm.trans h
          exact motion (.inr inR)
        · exact absurd h gone
  · rw [if_pos own] at h
    exact absurd (ZoneState.held.inj (at_.symm.trans h)).1 own

/-- Settles O39, zone by zone. -/
theorem releaseStepKeepsOnlyTheReach : Obligations.ReleaseStepKeepsOnlyTheReach := by
  intro k f reach s sound t z kind taken held
  obtain ⟨u, keeps, -, at_⟩ := foldl_zones_at (f := releaseZone k f reach false) (I := ZonesSound)
    (read := fun t => (t.zone z).st) (s := s) (fun t y ht => zonesSound_airClosed.releaseZone k f reach false y ht)
    (fun t y _ h => releaseZone_st_ne k f reach false t h) sound
  exact releaseZone_stays (keeps z) (at_.symm.trans held)

end Sys2Proof.Machine

/-! PROOFS. Access Control: overrides, grants and the re-examination of holds (R70 to R75, R77, R79, R80). -/

namespace Sys2Proof.Machine

set_option Elab.async false

/-! ### Numbers and targets -/

theorem craneOf?_eq_some {n : Nat} {k : Crane} : craneOf? n = some k ↔ n = k.val + 1 := by
  constructor
  · unfold craneOf?
    split
    · rintro ⟨⟩
      simp only
      omega
    · rintro ⟨⟩
  · rintro rfl
    exact craneOf?_craneNum k

theorem zoneOf?_eq_some {n : Nat} {z : Zone} : zoneOf? n = some z ↔ n = z.val + 1 := by
  constructor
  · unfold zoneOf?
    split
    · rintro ⟨⟩
      simp only
      omega
    · rintro ⟨⟩
  · rintro rfl
    exact zoneOf?_zoneNum z

theorem targetCrane_eq_some {tgt : Target} {k : Crane} :
    targetCrane tgt = some k ↔ tgt.sort = 1#8 ∧ tgt.value.toNat = k.val + 1 := by
  unfold targetCrane
  split
  · rename_i crane
    rw [craneOf?_eq_some]
    exact ⟨fun h => ⟨crane, h⟩, fun h => h.2⟩
  · rename_i other
    exact ⟨nofun, fun h => absurd h.1 other⟩

/-! ### The grant table (R72, R73) -/

/-- The entry of a crane and a zone. -/
def Grant.is (k : Crane) (z : Zone) (g : Grant) : Bool := g.crane == k && g.zone == z

theorem Grant.is_iff {k : Crane} {z : Zone} {g : Grant} : g.is k z = true ↔ g.crane = k ∧ g.zone = z := by
  rw [Grant.is, Bool.and_eq_true, beq_iff_eq, beq_iff_eq]

theorem findGrant_eq (s : State) (k : Crane) (z : Zone) : findGrant s k z = s.access.grants.find? (Grant.is k z) := rfl

theorem findGrant_congr {s t : State} (h : t.access = s.access) (k : Crane) (z : Zone) : findGrant t k z = findGrant s k z := by
  rw [findGrant_eq, findGrant_eq, h]

/-- The table with the entry of a crane and zone replaced. -/
def replaced (k : Crane) (z : Zone) (e : Grant) (l : List Grant) : List Grant :=
  l.map fun g => if g.crane == k && g.zone == z then e else g

theorem find_replaced_self {k : Crane} {z : Zone} {e : Grant} (own : e.is k z = true) (l : List Grant) :
    (replaced k z e l).find? (Grant.is k z) = (l.find? (Grant.is k z)).map fun _ => e := by
  have test : (Grant.is k z ∘ fun g => if g.crane == k && g.zone == z then e else g) = Grant.is k z := by
    funext g
    rw [Function.comp_apply]
    split
    · rename_i hit
      exact own.trans hit.symm
    · rfl
  rw [replaced, List.find?_map, test]
  cases found : l.find? (Grant.is k z) with
  | none => rfl
  | some g => exact congrArg some (if_pos (List.find?_some found))

theorem find_replaced_other {k j : Crane} {z y : Zone} {e : Grant} (own : e.is k z = true) (other : ¬(j = k ∧ y = z))
    (l : List Grant) : (replaced k z e l).find? (Grant.is j y) = l.find? (Grant.is j y) := by
  have apart {g : Grant} (h : g.is k z = true) : g.is j y = false := Bool.eq_false_iff.2 fun h' => other
    ⟨(Grant.is_iff.1 h').1.symm.trans (Grant.is_iff.1 h).1, (Grant.is_iff.1 h').2.symm.trans (Grant.is_iff.1 h).2⟩
  have test : (Grant.is j y ∘ fun g => if g.crane == k && g.zone == z then e else g) = Grant.is j y := by
    funext g
    rw [Function.comp_apply]
    split
    · rename_i hit
      rw [apart own, apart hit]
    · rfl
  rw [replaced, List.find?_map, test]
  cases found : l.find? (Grant.is j y) with
  | none => rfl
  | some g =>
    refine congrArg some (if_neg fun hit => ?_)
    cases (apart hit).symm.trans (List.find?_some found)

theorem mayUse_setGrants (s : State) (l : List Grant) (k : Crane) (z : Zone) (u : Use) : mayUse (s.setGrants l) k z u
    = (zonePresent s z && (permGives (s.perm z).current u || l.any fun g => g.is k z && permGives g.uses u)) := rfl

/-! ### Re-examination and restoration (R79, R80) -/

/-- From `s` to `t` every crane may use zone z as before. -/
def SameUses (s t : State) (z : Zone) : Prop := ∀ k u, mayUse t k z u = mayUse s k z u

theorem lostUse_iff {s t : State} {k : Crane} {z : Zone} :
    lostUse s t k z = true ↔ ∃ u, mayUse s k z u = true ∧ mayUse t k z u = false := by
  unfold lostUse
  rw [List.any_eq_true]
  constructor
  · rintro ⟨u, -, lost⟩
    rw [Bool.and_eq_true, Bool.not_eq_true'] at lost
    exact ⟨u, lost⟩
  · rintro ⟨u, was, now⟩
    refine ⟨u, by cases u <;> decide, ?_⟩
    rw [was, now]
    rfl

theorem lostUse_of_same {s t : State} {z : Zone} (h : SameUses s t z) (k : Crane) : lostUse s t k z = false :=
  Bool.eq_false_iff.2 fun lost => by
    obtain ⟨u, was, now⟩ := lostUse_iff.1 lost
    rw [h, was] at now
    cases now

theorem gainedUse_of_same {s t : State} {z : Zone} (h : SameUses s t z) (k : Crane) : gainedUse s t k z = false := by
  unfold gainedUse
  refine List.any_eq_false.2 fun u _ => ?_
  rw [h]
  simp

theorem reexamineZone_of_same {s t : State} {z : Zone} (h : SameUses s t z) : reexamineZone s t z = t := by
  unfold reexamineZone
  split
  · rfl
  · rfl
  · rw [lostUse_of_same h, if_neg Bool.false_ne_true]

theorem restoreZone_of_same {s t : State} {z : Zone} (h : SameUses s t z) : restoreZone s t z = t := by
  unfold restoreZone
  split
  · rfl
  · rfl
  · rw [gainedUse_of_same h]
    exact if_neg fun both => Bool.false_ne_true both.2

theorem reexamineZone_within (before s : State) (z : Zone) :
    Within { air := true, vanes := true } s (reexamineZone before s z) := by
  unfold reexamineZone
  split
  · exact Within.refl _ _
  · exact Within.refl _ _
  refine ite_within ?_ (Within.refl _ _)
  split
  · exact release_within z s
  · exact ite_within (Within.refl _ _) ((offer_within _ _).after (setKind_within _ _ _).mono)

theorem restoreZone_within (before s : State) (z : Zone) :
    Within { air := true, vanes := true } s (restoreZone before s z) := by
  unfold restoreZone
  split
  · exact Within.refl _ _
  · exact Within.refl _ _
  refine ite_within ?_ (Within.refl _ _)
  split
  · exact Within.refl _ _
  · exact ite_within ((judgeLimit_within _ _).after (setKind_within _ _ _).mono) (Within.refl _ _)

theorem SameUses.within {w : Touch} {s t u : State} {z : Zone} (h : SameUses s t z) (h' : Within w t u)
    (site : w.site = false := by rfl) (access : w.access = false := by rfl) : SameUses s u z :=
  fun k c => (mayUse_congr (h'.site site) (h'.access access) k z c).trans (h k c)

/-- Where no use changed, nothing is examined or restored. -/
theorem reexamine_of_same {s t : State} (h : ∀ z, SameUses s t z) : reexamine s t = t := by
  have examined : allZones.foldl (reexamineZone s) t = t :=
    foldl_keeps (P := fun v => v = t) (fun v z hv => by rw [hv, reexamineZone_of_same (h z)]) _ _ rfl
  unfold reexamine
  rw [examined]
  exact foldl_keeps (P := fun v => v = t) (fun v z hv => by rw [hv, restoreZone_of_same (h z)]) _ _ rfl

/-- Where only the uses of zone z changed, only zone z is examined and restored. -/
theorem reexamine_at {s t : State} {z : Zone} (h : ∀ y, y ≠ z → SameUses s t y) :
    reexamine s t = restoreZone s (reexamineZone s t z) z := by
  have same {v : State} (hv : Within { air := true, vanes := true } t v) {y : Zone} (ne : y ≠ z) : SameUses s v y :=
    (h y ne).within hv
  obtain ⟨v, hv, eq, examined⟩ := foldl_zones_at (f := reexamineZone s) (I := Within { air := true, vanes := true } t)
    (read := id) (z := z) (s := t) (fun v y hv => (reexamineZone_within s v y).after hv)
    (fun v y hv ne => reexamineZone_of_same (same hv ne)) (Within.refl _ t)
  obtain ⟨v', hv', eq', restored⟩ := foldl_zones_at (f := restoreZone s) (I := Within { air := true, vanes := true } t)
    (read := id) (z := z) (s := reexamineZone s t z) (fun v y hv => (restoreZone_within s v y).after hv)
    (fun v y hv ne => restoreZone_of_same (same hv ne)) (reexamineZone_within s t z)
  have at_ : v = t := eq
  have at_' : v' = reexamineZone s t z := eq'
  have one : allZones.foldl (reexamineZone s) t = reexamineZone s t z := examined.trans (by rw [at_]; rfl)
  have two : allZones.foldl (restoreZone s) (reexamineZone s t z) = restoreZone s (reexamineZone s t z) z :=
    restored.trans (by rw [at_']; rfl)
  unfold reexamine
  rw [one, two]

theorem reexamineZone_st_ne (before s : State) {y z : Zone} (h : z ≠ y) :
    ((reexamineZone before s y).zone z).st = (s.zone z).st := by
  unfold reexamineZone
  split
  · rfl
  · rfl
  split
  · split
    · exact release_st_ne y s h
    · split
      · rfl
      · rw [zone_congr (offer_air _ _), setKind_st_ne _ _ _ h]
  · rfl

theorem restoreZone_st_ne (before s : State) {y z : Zone} (h : z ≠ y) :
    ((restoreZone before s y).zone z).st = (s.zone z).st := by
  unfold restoreZone
  split
  · rfl
  · rfl
  split
  · split
    · rfl
    · split
      · rw [judgeLimit_st, setKind_st_ne _ _ _ h]
      · rfl
  · rfl

theorem restoreZone_of_barred {before s : State} {z : Zone} {k : Crane} {kind : HoldKind} {taken : Nat}
    (held : (s.zone z).st = .held k kind taken)
    (stays : kind ≠ .exitOnly ∨ ∃ u, useIn (footprint s k) z = some u ∧ mayUse s k z u = false) :
    restoreZone before s z = s := by
  unfold restoreZone
  rw [held]
  dsimp only
  rcases stays with other | ⟨u, used, barred⟩
  · exact if_neg fun both => other both.1
  · split
    · rw [used]
      dsimp only
      rw [barred, if_neg Bool.false_ne_true]
    · rfl

theorem restoreZone_of_free {before s : State} {z : Zone} (free : (s.zone z).st = .free) : restoreZone before s z = s := by
  unfold restoreZone
  rw [free]

theorem reexamineZone_of_held {before s : State} {z : Zone} {k : Crane} {kind : HoldKind} {taken : Nat}
    (held : (s.zone z).st = .held k kind taken) :
    (lostUse before s k z = false → reexamineZone before s z = s)
      ∧ (lostUse before s k z = true → useIn (footprint s k) z = none → reexamineZone before s z = release z s)
      ∧ (∀ u, useIn (footprint s k) z = some u → mayUse s k z u = true → reexamineZone before s z = s)
      ∧ (∀ u, lostUse before s k z = true → useIn (footprint s k) z = some u → kind ≠ .exitOnly → mayUse s k z u = false →
          reexamineZone before s z = offer { kind := .exitOnly, crane := some k, zone := some z, value := useCode u }
            (setKind z .exitOnly s)) := by
  unfold reexamineZone
  rw [held]
  dsimp only
  refine ⟨fun kept => ?_, fun lost unused => ?_, fun u used may => ?_, fun u lost used other barred => ?_⟩
  · rw [kept, if_neg Bool.false_ne_true]
  · rw [lost, if_pos rfl, unused]
  · rw [used]
    split
    · exact if_pos (.inr may)
    · rfl
  · rw [lost, if_pos rfl, used]
    dsimp only
    rw [if_neg fun either => either.elim other fun may => Bool.false_ne_true (barred.symm.trans may)]

/-- What re-examination and restoration make of the zones when only the uses of zone z changed (R79, Figure 4-3). -/
structure Examined (s t : State) (z : Zone) : Prop where
  others : ∀ y, y ≠ z → (t.zone y).st = (s.zone y).st
  exit : ∀ {j kind taken u}, (s.zone z).st = .held j kind taken → useIn (footprint s j) z = some u → kind ≠ .exitOnly →
    (∃ c, mayUse s j z c = true ∧ mayUse t j z c = false) → mayUse t j z u = false →
    t.zone z = { s.zone z with st := .held j .exitOnly taken }
  stays : ∀ {j kind taken u}, (s.zone z).st = .held j kind taken → useIn (footprint s j) z = some u → kind ≠ .exitOnly →
    mayUse t j z u = true → t.zone z = s.zone z
  freed : ∀ {j kind taken}, (s.zone z).st = .held j kind taken → (∃ c, mayUse s j z c = true ∧ mayUse t j z c = false) →
    useIn (footprint s j) z = none → (s.zone z).queue = [] → (s.zone z).sweepPending = none →
    t.zone z = { st := .free, vacate := false, sweepPending := none, queue := [] }

/-- `before` has the zones, poses and tables of `t`, and of the uses only those of zone z differ. -/
theorem reexamine_examined {before t : State} {z : Zone} (same : ∀ y, y ≠ z → SameUses before t y)
    (air : t.air = before.air) (site : t.site = before.site) (poses : t.poses = before.poses) :
    Examined before (reexamine before t) z := by
  have w := reexamine_within before t
  have uses (j : Crane) (y : Zone) (c : Use) : mayUse (reexamine before t) j y c = mayUse t j y c :=
    mayUse_congr (w.site rfl) (w.access rfl) j y c
  have print (j : Crane) : footprint t j = footprint before j := footprint_congr site poses j
  have zone : t.zone z = before.zone z := zone_congr air z
  have eq := reexamine_at same
  refine ⟨fun y ne => ?_, fun {j kind taken u} held used other lost barred => ?_, fun {j kind taken u} held used other may => ?_,
    fun {j kind taken} held lost unused empty unpending => ?_⟩
  · rw [eq, restoreZone_st_ne _ _ ne, reexamineZone_st_ne _ _ ne, zone_congr air]
  · simp only [uses] at lost barred
    have at_ : (t.zone z).st = .held j kind taken := by rw [zone, held]
    rw [← print] at used
    have examined := (reexamineZone_of_held at_).2.2.2 u (lostUse_iff.2 lost) used other barred
    have exits : (reexamineZone before t z).zone z = { before.zone z with st := .held j .exitOnly taken } := by
      rw [examined, zone_congr (offer_air _ _), setKind, State.setZone_zone_self, ZoneRec.withKind, at_]
      dsimp only
      rw [zone]
    have within := reexamineZone_within before t z
    rw [eq, restoreZone_of_barred (k := j) (kind := .exitOnly) (taken := taken) (by rw [exits]) (.inr ⟨u, ?_, ?_⟩), exits]
    · rw [footprint_congr (within.site rfl) (within.poses rfl), used]
    · rw [mayUse_congr (within.site rfl) (within.access rfl), barred]
  · rw [uses] at may
    have at_ : (t.zone z).st = .held j kind taken := by rw [zone, held]
    rw [← print] at used
    rw [eq, (reexamineZone_of_held at_).2.2.1 u used may, restoreZone_of_barred at_ (.inl other), zone]
  · simp only [uses] at lost
    have at_ : (t.zone z).st = .held j kind taken := by rw [zone, held]
    rw [← print] at unused
    have free := release_of_unusable (s := t) (z := z) (by rw [zone, unpending]) (by rw [zone, empty]; exact nofun)
    rw [eq, (reexamineZone_of_held at_).2.1 (lostUse_iff.2 lost) unused, restoreZone_of_free (by rw [free]), free]

end Sys2Proof.Machine

/-! PROOFS. SET ZONE PERMISSIONS, GRANT and REVOKE ACCESS and the expiries of permissions (R70 to R75). -/

namespace Sys2Proof.Machine

set_option Elab.async false

/-! ### Overrides (R70) -/

theorem expiryPast_eq_false {s : State} {expiry : Option Nat} :
    expiryPast s expiry = false ↔ ∀ x, expiry = some x → s.clock.siteTime < x := by
  cases expiry with
  | none => exact ⟨fun _ => nofun, fun _ => rfl⟩
  | some x =>
    rw [expiryPast, decide_eq_false_iff_not, Nat.not_le]
    exact ⟨fun h y hy => Option.some.inj hy ▸ h, fun h => h x rfl⟩

theorem setPerm_sameUses (s : State) (z : Zone) (p : Perm) {y : Zone} (ne : y ≠ z) : SameUses s (s.setPerm z p) y :=
  fun k u => by
    show (zonePresent s y && _) = _
    rw [State.setPerm_perm_ne _ _ _ _ ne]
    rfl

theorem setPerm_sameUses_self {s : State} {z : Zone} {p : Perm} (same : p.current = (s.perm z).current) :
    SameUses s (s.setPerm z p) z := fun k u => by
  show (zonePresent s z && (permGives ((s.setPerm z p).perm z).current u || _)) = _
  rw [State.setPerm_perm_self, same]
  rfl

/-- Permissions set to what they were leave every hold as it is (R79, R80). -/
theorem reexamine_setPerm_of_same {s : State} {z : Zone} {p : Perm} (same : p.current = (s.perm z).current) :
    reexamine s (s.setPerm z p) = s.setPerm z p :=
  reexamine_of_same fun y => by
    by_cases at_ : y = z
    · rw [at_]
      exact setPerm_sameUses_self same
    · exact setPerm_sameUses s z p at_

theorem reexamine_setPerm_perm (s : State) (z : Zone) (p : Perm) (y : Zone) :
    (reexamine s (s.setPerm z p)).perm y = if y = z then p else s.perm y := by
  have access := (reexamine_within s (s.setPerm z p)).access rfl
  rw [← State.setPerm_perm]
  unfold State.perm
  rw [access]

theorem setZonePermissions_of_target {tgt : Target} {z : Zone} {s : State} (target : targetZone tgt = some z)
    (present : zonePresent s z = true) (mode : Nat) (setting : PermSet) (expiry : Option Nat) :
    setZonePermissions tgt mode setting expiry s
      = if mode ≠ 1 ∧ mode ≠ 2 then (.no .range, s)
        else if mode = 1 then
          if expiryPast s expiry then (.no .range, s)
          else (.ok, reexamine s (s.setPerm z ⟨setting, true, expiry⟩))
        else (.ok, reexamine s (s.setPerm z ⟨basePerms s z, false, none⟩)) := by
  rw [setZonePermissions, target]
  dsimp only
  rw [present, if_neg (by decide)]
  rfl

/-- Settles O40, by the mode and the expiry. -/
theorem setZonePermissionsSetsThem : Obligations.SetZonePermissionsSetsThem := by
  intro tag tgt z mode setting expiry s target present ahead new
  have judged := setZonePermissions_of_target target present mode setting expiry
  refine ⟨fun taken => ?_, fun refused => ?_⟩
  · have done : setZonePermissions tgt mode setting expiry s = (.ok, reexamine s (s.setPerm z new)) := by
      rcases taken with ⟨override, later⟩ | revert
      · rw [judged, if_neg fun h => h.1 override, if_pos override, expiryPast_eq_false.2 later, if_neg Bool.false_ne_true]
        exact congrArg (fun p => (Reply.ok, reexamine s (s.setPerm z p))) (if_pos override).symm
      · have other : mode ≠ 1 := by omega
        rw [judged, if_neg fun h => h.2 revert, if_neg other]
        exact congrArg (fun p => (Reply.ok, reexamine s (s.setPerm z p))) (if_neg other).symm
    have w : Within { air := true, access := true, vanes := true } s (reexamine s (s.setPerm z new)) :=
      (reexamine_within _ _).after (setPerm_within _ _ _).mono
    have perm := reexamine_setPerm_perm s z new
    have grants := congrArg Access.grants ((reexamine_within s (s.setPerm z new)).access rfl)
    have quiet (same : new.current = (s.perm z).current) := reexamine_setPerm_of_same same
    generalize reexamine s (s.setPerm z new) = t at done w perm grants quiet
    refine ⟨_, exec_answered (q := .setZonePermissions) done, rfl, (perm z).trans (if_pos rfl),
      fun y ne => (perm y).trans (if_neg ne), grants, fun same => ?_, ?_⟩
    · rw [quiet same]
      exact ⟨rfl, rfl, rfl⟩
    · exact congrArg (fun t : State => { t with sent := s.sent ++ [responseFrame .setZonePermissions tag .ok] }) w.frame
  · refine exec_answered (q := .setZonePermissions) ?_
    rcases refused with ⟨override, past⟩ | unknown
    · have late : expiryPast s expiry = true := Bool.eq_true_of_not_eq_false (mt expiryPast_eq_false.1 past)
      rw [judged, if_neg fun h => h.1 override, if_pos override, late, if_pos rfl]
    · rw [judged, if_pos unknown]

/-! ### Grants (R73, R77) -/

/-- A table whose entry for a crane and zone is the only one of theirs gives what that entry gives. -/
theorem mayUse_of_entry {s : State} {l : List Grant} {k : Crane} {z : Zone} {e : Grant} (present : zonePresent s z = true)
    (mem : e ∈ l) (own : e.is k z = true) (only : ∀ g ∈ l, g.is k z = true → g = e) (u : Use) :
    mayUse (s.setGrants l) k z u = (permGives (s.perm z).current u || permGives e.uses u) := by
  have given : (l.any fun g => g.is k z && permGives g.uses u) = permGives e.uses u := by
    cases gives : permGives e.uses u with
    | true => exact List.any_eq_true.2 ⟨e, mem, by rw [own, gives]; rfl⟩
    | false =>
      refine List.any_eq_false.2 fun g hg both => ?_
      rw [Bool.and_eq_true] at both
      rw [only g hg both.1, gives] at both
      cases both.2
  rw [mayUse_setGrants, present, given, Bool.true_and]

/-- What a new table with an entry of its own for a crane and zone must show (R73). -/
structure Stores (s : State) (k : Crane) (z : Zone) (e : Grant) (l : List Grant) : Prop where
  found : l.find? (Grant.is k z) = some e
  others : ∀ j y, ¬(j = k ∧ y = z) → l.find? (Grant.is j y) = s.access.grants.find? (Grant.is j y)
  only : ∀ g ∈ l, g.is k z = true → g = e
  length : l.length = s.access.grants.length + if (findGrant s k z).isSome = true then 0 else 1

theorem stores_replaced {s : State} {k : Crane} {z : Zone} {e : Grant} (own : e.is k z = true)
    (there : (findGrant s k z).isSome = true) : Stores s k z e (replaced k z e s.access.grants) where
  found := by
    obtain ⟨g, found⟩ := Option.isSome_iff_exists.1 there
    rw [find_replaced_self own, ← findGrant_eq, found]
    rfl
  others j y other := find_replaced_other own other _
  only g hg hit := by
    obtain ⟨f, -, rfl⟩ := List.mem_map.1 hg
    split
    · rfl
    · rename_i missed
      rw [if_neg missed] at hit
      exact absurd hit missed
  length := by rw [if_pos there, replaced, List.length_map, Nat.add_zero]

theorem stores_appended {s : State} {k : Crane} {z : Zone} {e : Grant} (own : e.is k z = true)
    (new : findGrant s k z = none) : Stores s k z e (s.access.grants ++ [e]) where
  found := by
    rw [List.find?_append, ← findGrant_eq, new, Option.none_or]
    exact List.find?_cons_of_pos own
  others j y other := by
    have missed : ¬e.is j y = true := fun hit => other
      ⟨(Grant.is_iff.1 hit).1.symm.trans (Grant.is_iff.1 own).1, (Grant.is_iff.1 hit).2.symm.trans (Grant.is_iff.1 own).2⟩
    rw [List.find?_append, List.find?_cons_of_neg missed, List.find?_nil, Option.or_none]
  only g hg hit := by
    rcases List.mem_append.1 hg with old | last
    · exact absurd hit (List.find?_eq_none.1 new g old)
    · exact List.mem_singleton.1 last
  length := by
    rw [new, Option.isSome_none, if_neg Bool.false_ne_true, List.length_append, List.length_singleton]

theorem grantAccess_of_target {tgt : Target} {k : Crane} {zone : Nat} {z : Zone} {uses : PermSet} {expiry : Option Nat} {s : State}
    (target : targetCrane tgt = some k) (crane : cranePresent s k = true) (named : zoneOf? zone = some z)
    (present : zonePresent s z = true) (useful : uses.jib = true ∨ uses.load = true)
    (ahead : ∀ x, expiry = some x → s.clock.siteTime < x) : grantAccess tgt zone uses expiry s
      = if (findGrant s k z).isSome then
          (.ok, reexamine s (s.setGrants (replaced k z ⟨k, z, uses, expiry⟩ s.access.grants)))
        else if 16 ≤ s.access.grants.length then (.no .tableFull, s)
        else (.ok, reexamine s (s.setGrants (s.access.grants ++ [⟨k, z, uses, expiry⟩]))) := by
  have some_use : (!uses.jib && !uses.load) = false := by
    rcases useful with h | h
    · rw [h]
      rfl
    · rw [h, Bool.not_true, Bool.and_false]
  rw [grantAccess, target]
  dsimp only
  rw [crane, if_neg (by decide), named]
  dsimp only
  rw [present, if_neg (by decide), some_use, expiryPast_eq_false.2 ahead, if_neg (by decide)]
  rfl

/-- Settles O41, by whether the pair has an entry and the table has room. -/
theorem grantAccessStoresItsEntry : Obligations.GrantAccessStoresItsEntry := by
  intro tag tgt k zone z uses expiry s target crane named present useful ahead
  have judged := grantAccess_of_target target crane named present useful ahead
  have own : Grant.is k z ⟨k, z, uses, expiry⟩ = true := Grant.is_iff.2 ⟨rfl, rfl⟩
  refine ⟨fun room => ?_, fun new full => ?_⟩
  · have stored : ∃ l, Stores s k z ⟨k, z, uses, expiry⟩ l
        ∧ grantAccess tgt zone uses expiry s = (.ok, reexamine s (s.setGrants l)) := by
      by_cases there : (findGrant s k z).isSome = true
      · exact ⟨_, stores_replaced own there, by rw [judged, if_pos there]⟩
      · have space : s.access.grants.length < 16 := room.resolve_left there
        exact ⟨_, stores_appended own (by simpa using there), by rw [judged, if_neg there, if_neg (Nat.not_le.2 space)]⟩
    obtain ⟨l, stores, done⟩ := stored
    have examined := reexamine_within s (s.setGrants l)
    have access : (reexamine s (s.setGrants l)).access = (s.setGrants l).access := examined.access rfl
    have w : Within { air := true, access := true, vanes := true } s (reexamine s (s.setGrants l)) :=
      examined.after (setGrants_within _ _).mono
    have site := examined.site rfl
    generalize reexamine s (s.setGrants l) = t at done w access site
    refine ⟨_, exec_answered (q := .grantAccess) done, rfl, ?_, fun j y other => ?_, fun u => ?_, ?_, ?_, ?_⟩
    · exact (findGrant_congr (s := s.setGrants l) access k z).trans stores.found
    · exact (findGrant_congr (s := s.setGrants l) access j y).trans (stores.others j y other)
    · refine (mayUse_congr (s := s.setGrants l) site access k z u).trans ?_
      exact mayUse_of_entry present (List.mem_of_find?_eq_some stores.found) own stores.only u
    · exact (congrArg (fun a : Access => a.grants.length) access).trans stores.length
    · exact (congrArg Access.perms access :)
    · exact congrArg (fun t : State => { t with sent := s.sent ++ [responseFrame .grantAccess tag .ok] }) w.frame
  · refine exec_answered (q := .grantAccess) ?_
    rw [judged, new, Option.isSome_none, if_neg Bool.false_ne_true, if_pos full]

/-! ### Grants revoked (R74) -/

theorem withoutGrant_eq (l : List Grant) (k : Crane) (z : Zone) :
    withoutGrant l k z = l.filter fun g => !(decide (g.crane = k) && decide (g.zone = z)) :=
  List.filter_congr fun g _ => by rw [beq_eq_decide, beq_eq_decide]

/-- Settles O42, by whether the request names a pair with an entry. -/
theorem revokeAccessRemovesItsEntry : Obligations.RevokeAccessRemovesItsEntry := by
  intro tag tgt zone s names
  refine ⟨?_, fun none_named => ?_⟩
  · intro k z named removed
    obtain ⟨sort, value, number, entry⟩ := named
    refine exec_answered (q := .revokeAccess) ?_
    rw [revokeAccess, targetCrane_eq_some.2 ⟨sort, value⟩, zoneOf?_eq_some.2 number]
    dsimp only
    rw [if_pos (findGrant_isSome.2 entry), withoutGrant_eq]
    rfl
  · refine exec_answered (q := .revokeAccess) ?_
    unfold revokeAccess
    split
    · rename_i k z target number
      refine if_neg fun there => none_named k z ?_
      obtain ⟨sort, value⟩ := targetCrane_eq_some.1 target
      exact ⟨sort, value, zoneOf?_eq_some.1 number, findGrant_isSome.1 there⟩
    · rfl

/-! ### Expiries (R71, R75) -/

theorem removed_sameUses (s : State) (k : Crane) (z : Zone) {y : Zone} (ne : y ≠ z) :
    SameUses s (s.setGrants (withoutGrant s.access.grants k z)) y := fun j u => by
  have kept : ((withoutGrant s.access.grants k z).any fun g => g.is j y && permGives g.uses u)
      = s.access.grants.any fun g => g.is j y && permGives g.uses u := by
    rw [withoutGrant, List.any_filter]
    refine congrArg _ (funext fun g => ?_)
    cases hit : g.is j y with
    | false => rw [Bool.false_and, Bool.and_false]
    | true =>
      have other : (g.crane == k && g.zone == z) = false := Bool.eq_false_iff.2 fun same =>
        ne ((Grant.is_iff.1 hit).2.symm.trans (Grant.is_iff.1 same).2)
      rw [other]
      rfl
  rw [mayUse_setGrants, kept]
  rfl

theorem find_withoutGrant (l : List Grant) (k : Crane) (z : Zone) :
    (withoutGrant l k z).find? (Grant.is k z) = none
      ∧ ∀ j y, ¬(j = k ∧ y = z) → (withoutGrant l k z).find? (Grant.is j y) = l.find? (Grant.is j y) := by
  refine ⟨List.find?_eq_none.2 fun g hg hit => ?_, fun j y other => ?_⟩
  · have kept := (List.mem_filter.1 hg).2
    rw [show (g.crane == k && g.zone == z) = true from hit] at kept
    cases kept
  · rw [withoutGrant, List.find?_filter]
    refine List.find?_congr fun g _ => ?_
    cases hit : g.is j y with
    | false => rw [decide_eq_false fun both => Bool.false_ne_true both.2]
    | true =>
      refine decide_eq_true ⟨?_, rfl⟩
      rw [Bool.not_eq_true']
      exact Bool.eq_false_iff.2 fun same => other
        ⟨(Grant.is_iff.1 hit).1.symm.trans (Grant.is_iff.1 same).1, (Grant.is_iff.1 hit).2.symm.trans (Grant.is_iff.1 same).2⟩

theorem exec_overrideExpiry {z : Zone} {x : Nat} {s : State} (due : (s.perm z).expiry = some x) :
    exec (.overrideExpiry z) s = .next (expireOverride z (s.waitSite x)) := by
  show execOverrideExpiry z s = _
  unfold execOverrideExpiry
  rw [due]

theorem exec_grantExpiry {k : Crane} {z : Zone} {g : Grant} {x : Nat} {s : State} (found : findGrant s k z = some g)
    (due : g.expiry = some x) : exec (.grantExpiry k z) s = .next (expireGrant g (s.waitSite x)) := by
  show execGrantExpiry k z s = _
  unfold execGrantExpiry
  rw [found]
  dsimp only
  rw [due]

/-- The parts that a move of site time leaves. -/
theorem waitSite_kept (s : State) (x : Nat) : (s.waitSite x).site = s.site ∧ (s.waitSite x).access = s.access
    ∧ (s.waitSite x).air = s.air ∧ (s.waitSite x).poses = s.poses ∧ (s.waitSite x).vanes = s.vanes := by
  rw [waitSite_frame]
  exact ⟨rfl, rfl, rfl, rfl, rfl⟩

/-- The statement of O43 about holds, from the zones examined after site time moved. -/
theorem examined_after_waitSite {s t : State} {z : Zone} {x : Nat} (h : Examined (s.waitSite x) t z) :
    (∀ y, y ≠ z → (t.zone y).st = (s.zone y).st)
      ∧ ∀ j kind taken, (s.zone z).st = .held j kind taken →
        let lost : Prop := ∃ u, mayUse s j z u = true ∧ mayUse t j z u = false
        (∀ u, useIn (footprint s j) z = some u → kind ≠ .exitOnly →
          (lost → mayUse t j z u = false → t.zone z = { s.zone z with st := .held j .exitOnly taken })
            ∧ (mayUse t j z u = true → t.zone z = s.zone z))
        ∧ (lost → useIn (footprint s j) z = none → (s.zone z).queue = [] → (s.zone z).sweepPending = none →
            t.zone z = { st := .free, vacate := false, sweepPending := none, queue := [] }) := by
  obtain ⟨site, access, air, poses, -⟩ := waitSite_kept s x
  obtain ⟨others, exit, stays, freed⟩ := h
  simp only [zone_congr air, footprint_congr site poses, mayUse_congr site access] at others exit stays freed
  exact ⟨others, fun j kind taken held => ⟨fun u used other => ⟨exit held used other, stays held used other⟩, freed held⟩⟩

/-- Settles O43, through the re-examination of the one zone whose uses changed. -/
theorem siteTimeExpiriesEndPermissions : Obligations.SiteTimeExpiriesEndPermissions := by
  intro k z x s w examined
  obtain ⟨site, access, air, poses, vanes⟩ := waitSite_kept s x
  refine ⟨fun due => ?_, fun g found due => ?_⟩
  · have base : basePerms w z = basePerms s z := by
      unfold basePerms
      rw [site]
    have told := offer_within { kind := .permissionExpired, zone := some z, value := permCode (basePerms s z) }
      (w.setPerm z ⟨basePerms s z, false, none⟩)
    have eq : expireOverride z w = reexamine w (offer
        { kind := .permissionExpired, zone := some z, value := permCode (basePerms s z) }
        (w.setPerm z ⟨basePerms s z, false, none⟩)) := by
      unfold expireOverride revertPerm
      dsimp only
      rw [State.setPerm_perm_self, base]
    have frame := expireOverride_within z w
    have run := exec_overrideExpiry due
    rw [show s.waitSite x = w from rfl, eq] at run
    rw [eq] at frame
    have examinedAfter := reexamine_within w (offer
      { kind := .permissionExpired, zone := some z, value := permCode (basePerms s z) } (w.setPerm z ⟨basePerms s z, false, none⟩))
    have perms : (reexamine w (offer { kind := .permissionExpired, zone := some z, value := permCode (basePerms s z) }
        (w.setPerm z ⟨basePerms s z, false, none⟩))).access = (w.setPerm z ⟨basePerms s z, false, none⟩).access :=
      (examinedAfter.access rfl).trans (told.access rfl)
    have permAt (y : Zone) : (reexamine w (offer { kind := .permissionExpired, zone := some z, value := permCode (basePerms s z) }
        (w.setPerm z ⟨basePerms s z, false, none⟩))).perm y = if y = z then ⟨basePerms s z, false, none⟩ else s.perm y := by
      have wPerm : w.perm y = s.perm y := by
        unfold State.perm
        rw [access]
      rw [← wPerm, ← State.setPerm_perm]
      unfold State.perm
      rw [perms]
    have same (y : Zone) (ne : y ≠ z) : SameUses w (offer
        { kind := .permissionExpired, zone := some z, value := permCode (basePerms s z) }
        (w.setPerm z ⟨basePerms s z, false, none⟩)) y := (setPerm_sameUses w z _ ne).within told
    refine ⟨_, run, rfl, ?_, (permAt z).trans (if_pos rfl), fun y ne => (permAt y).trans (if_neg ne), ?_, ?_, fun unchanged => ?_,
      frame.frame_waitSite⟩
    · rw [frame.clock, waitSite_siteTime]
    · rw [perms]
      exact (congrArg Access.grants access :)
    · exact examined_after_waitSite (reexamine_examined same (told.air rfl) (told.site rfl) (told.poses rfl))
    · have wCurrent : (w.perm z).current = (s.perm z).current := by
        unfold State.perm
        rw [access]
      have quiet : reexamine w (offer { kind := .permissionExpired, zone := some z, value := permCode (basePerms s z) }
          (w.setPerm z ⟨basePerms s z, false, none⟩)) = offer
          { kind := .permissionExpired, zone := some z, value := permCode (basePerms s z) }
          (w.setPerm z ⟨basePerms s z, false, none⟩) := reexamine_of_same fun y => by
        by_cases at_ : y = z
        · rw [at_]
          exact (setPerm_sameUses_self (unchanged.trans wCurrent.symm)).within told
        · exact same y at_
      rw [quiet]
      exact ⟨(told.air rfl).trans air, (told.vanes rfl).trans vanes, offer_recorder_congr _ rfl rfl⟩
  · obtain ⟨crane, zone⟩ := Grant.is_iff.1 (List.find?_some found)
    have removed : withoutGrant w.access.grants g.crane g.zone
        = w.access.grants.filter fun e => !(decide (e.crane = k) && decide (e.zone = z)) := by
      rw [withoutGrant_eq, crane, zone]
    have eq : expireGrant g w = reexamine w (offer
        { kind := .grantExpired, crane := some k, zone := some z, value := permCode g.uses }
        (w.setGrants (withoutGrant w.access.grants k z))) := by
      unfold expireGrant
      rw [crane, zone]
    have told := offer_within { kind := .grantExpired, crane := some k, zone := some z, value := permCode g.uses }
      (w.setGrants (withoutGrant w.access.grants k z))
    have frame := expireGrant_within g w
    have run := exec_grantExpiry found due
    rw [show s.waitSite x = w from rfl, eq] at run
    rw [eq] at frame
    have examinedAfter := reexamine_within w (offer
      { kind := .grantExpired, crane := some k, zone := some z, value := permCode g.uses }
      (w.setGrants (withoutGrant w.access.grants k z)))
    have entries : (reexamine w (offer { kind := .grantExpired, crane := some k, zone := some z, value := permCode g.uses }
        (w.setGrants (withoutGrant w.access.grants k z)))).access = (w.setGrants (withoutGrant w.access.grants k z)).access :=
      (examinedAfter.access rfl).trans (told.access rfl)
    have same (y : Zone) (ne : y ≠ z) : SameUses w (offer
        { kind := .grantExpired, crane := some k, zone := some z, value := permCode g.uses }
        (w.setGrants (withoutGrant w.access.grants k z))) y := (removed_sameUses w k z ne).within told
    obtain ⟨gone, kept⟩ := find_withoutGrant w.access.grants k z
    refine ⟨_, run, ?_, ?_, ?_, fun j y other => ?_, ?_, ?_, frame.frame_waitSite⟩
    · rw [withoutGrant_eq]
      rfl
    · rw [frame.clock, waitSite_siteTime]
    · exact (findGrant_congr (s := w.setGrants (withoutGrant w.access.grants k z)) entries k z).trans gone
    · refine (findGrant_congr (s := w.setGrants (withoutGrant w.access.grants k z)) entries j y).trans ?_
      exact (kept j y other).trans (findGrant_congr access j y)
    · rw [entries]
      exact (congrArg Access.perms access :)
    · exact examined_after_waitSite (reexamine_examined same (told.air rfl) (told.site rfl) (told.poses rfl))

end Sys2Proof.Machine

/-! PROOFS. Site Tables: LOAD SEGMENT (R10 to R12) and COMMIT (R13 to R20, R69). -/

namespace Sys2Proof.Machine

set_option Elab.async false

/-! ### Vectors and targets -/

theorem vector_set_self {α : Type} {n : Nat} (v : Vector α n) (k : Fin n) (x : α) : (v.set k x)[k] = x := by simp

theorem vector_set_ne {α : Type} {n : Nat} (v : Vector α n) {j k : Fin n} (h : j ≠ k) (x : α) : (v.set k x)[j] = v[j] := by
  have apart : k.val ≠ j.val := fun same => h (Fin.ext same.symm)
  simp [apart]

theorem vector_replicate {α : Type} {n : Nat} (x : α) (i : Fin n) : (Vector.replicate n x)[i] = x := by simp

theorem not_site_of_targetCrane {tgt : Target} {k : Crane} (h : targetCrane tgt = some k) : targetIsSite tgt = false := by
  rw [targetIsSite, sort_of_targetCrane h]
  rfl

theorem loadSegment_of_crane {tgt : Target} {k : Crane} (h : targetCrane tgt = some k) (seg : Nat) (content : Segment) (s : State) :
    loadSegment tgt seg content s = loadForCrane k seg content s := by
  rw [loadSegment, not_site_of_targetCrane h, if_neg Bool.false_ne_true, h]

theorem commit_of_crane {tgt : Target} {k : Crane} (h : targetCrane tgt = some k) (tag set : Byte) (s : State) :
    commit tag tgt set s = commitForCrane k tag set s := by
  rw [commit, not_site_of_targetCrane h, if_neg Bool.false_ne_true, h]

/-! ### LOAD SEGMENT (R10 to R12) -/

/-- What a staging that may be restarted reads at another place (R12). -/
theorem restarted_set_ne {α : Type} {n : Nat} [NeZero n] (v : Vector (Option α) n) {i j : Fin n} (h : j ≠ i) (x : Option α) :
    ((if i = 0 then Vector.replicate n none else v).set i x)[j] = if i = 0 then none else v[j] := by
  rw [vector_set_ne _ h]
  split
  · exact vector_replicate none j
  · rfl

theorem loadForCrane_reachMap {k : Crane} {i : Fin 16} {sectors : List RawSector} {claims : List (List Claim)}
    (staged : sectors.mapM stagedSector = some claims) (once : claims.any namesTwice = false) (s : State) :
    loadForCrane k i.val (.reachMap sectors) s = (.ok, storeMapSegment k i claims s) := by
  rw [loadForCrane, dif_pos i.isLt, staged]
  dsimp only
  rw [once, if_neg Bool.false_ne_true]

theorem loadSegment_zoneTable {tgt : Target} (site : targetIsSite tgt = true) {i : Fin 4} {zones : List ZoneStatic}
    (fields : zones.all zoneFieldsOk = true) (s : State) :
    loadSegment tgt i.val (.zoneTable zones) s = (.ok, storeZoneSegment i zones s) := by
  rw [loadSegment, site, if_pos rfl, loadForSite, dif_pos i.isLt, fields, if_pos rfl]

/-- Settles O44, kind of segment by kind. -/
theorem loadSegmentStagesItsContent : Obligations.LoadSegmentStagesItsContent := by
  intro tag tgt s done staged
  refine ⟨fun k target => ⟨fun p q passed => ?_, fun c q passed => ?_, fun p passed => ?_, fun i sectors claims passed once => ?_⟩,
    fun site i zones fields => ?_⟩
  · refine exec_answered (q := .loadSegment) (t := s.setStaging k { s.staging k with profile := some q }) ?_
    rw [loadSegment_of_crane target, loadForCrane, if_neg fun h => h rfl, passed]
  · refine exec_answered (q := .loadSegment) (t := s.setStaging k { s.staging k with chart := some q }) ?_
    rw [loadSegment_of_crane target, loadForCrane, if_neg fun h => h rfl, passed]
  · refine exec_answered (q := .loadSegment) (t := s.setStaging k { s.staging k with policy := some p }) ?_
    rw [loadSegment_of_crane target, loadForCrane, passed, if_neg (by decide)]
  · refine ⟨{ s.site.staging[k] with map :=
        (if i = 0 then Vector.replicate 16 none else (s.site.staging[k]).map).set i (some claims) },
      exec_answered (q := .loadSegment) (t := storeMapSegment k i claims s) ?_, rfl, vector_set_self _ i _,
      fun j h => restarted_set_ne _ h _⟩
    rw [loadSegment_of_crane target, loadForCrane_reachMap passed once]
  · exact ⟨_, exec_answered (q := .loadSegment) (loadSegment_zoneTable site fields s), vector_set_self _ i _,
      fun j h => restarted_set_ne _ h _, rfl, rfl⟩

/-! ### Structural commits (R13, R14, R16, R17) -/

theorem named_isSome {α : Type} {want : Bool} {o : Option α} (there : want = true → o.isSome = true) :
    (named want o).isSome = want := by
  cases want with
  | false => rfl
  | true => exact there rfl

theorem named_or {α : Type} {want : Bool} {o : Option α} (there : want = true → o.isSome = true) (old : Option α) :
    (named want o).or old = if want = true then o else old := by
  cases want with
  | false => rfl
  | true =>
    obtain ⟨a, rfl⟩ := Option.isSome_iff_exists.1 (there rfl)
    rfl

/-- The commit of the staged tables that a selection names. -/
def stagedCommit (s : State) (k : Crane) (p m c : Bool) : StructuralCommit :=
  { profile := named p (s.staging k).profile, map := named m (stagedMap (s.staging k)), chart := named c (s.staging k).chart,
    blocked := false }

/-- The tables that a selection names are staged whole. -/
structure Complete (s : State) (k : Crane) (p m c : Bool) : Prop where
  profile : p = true → (s.staging k).profile.isSome = true
  map : m = true → (stagedMap (s.staging k)).isSome = true
  chart : c = true → (s.staging k).chart.isSome = true

theorem not_missing {want : Bool} {α : Type} {o : Option α} (there : want = true → o.isSome = true) :
    (want && o.isNone) = false := by
  cases want with
  | false => rfl
  | true =>
    obtain ⟨a, rfl⟩ := Option.isSome_iff_exists.1 (there rfl)
    rfl

/-- A structural commit that passes the tests of R13 and R14 is taken. -/
theorem commit_of_passing {tag set : Byte} {tgt : Target} {k : Crane} {p m c : Bool} {s : State}
    (target : targetCrane tgt = some k) (selected : tableSetOf set = some (.structural p m c)) (complete : Complete s k p m c)
    (presence : ¬(s.mode = .operating ∧ p = true
      ∧ (tablesWith s k (stagedCommit s k p m c)).isPresent ≠ cranePresent s k))
    (crane : (m || c) = true → (tablesWith s k (stagedCommit s k p m c)).isPresent = true)
    (checks : allChecks s k (tablesWith s k (stagedCommit s k p m c)) true = none) :
    commit tag tgt set s = takeStructural k tag (stagedCommit s k p m c) s := by
  have whole : ((p && (s.staging k).profile.isNone) || (m && (stagedMap (s.staging k)).isNone)
      || (c && (s.staging k).chart.isNone)) = false := by
    rw [not_missing complete.profile, not_missing complete.map, not_missing complete.chart]
    rfl
  have there : ((m || c) && !(tablesWith s k (stagedCommit s k p m c)).isPresent) = false := by
    cases other : (m || c) with
    | false => rfl
    | true =>
      rw [crane other]
      rfl
  have judged : commit tag tgt set s = judgeStructural k tag p (m || c) (stagedCommit s k p m c) s := by
    rw [commit_of_crane target, commitForCrane, selected]
    dsimp only
    rw [commitStructural, whole, if_neg Bool.false_ne_true]
    rfl
  rw [judged, judgeStructural, if_neg presence, there, if_neg Bool.false_ne_true, checks]

/-- The staging area of a crane when the slots of a commit are emptied (R16). -/
theorem emptied_staging {s : State} {k : Crane} {p m c : Bool} (complete : Complete s k p m c) :
    let t := (emptySlots k (stagedCommit s k p m c) s).staging k
    t.profile = (if p = true then none else (s.staging k).profile)
      ∧ (∀ i : Fin 16, t.map[i] = if m = true then none else (s.staging k).map[i])
      ∧ t.chart = (if c = true then none else (s.staging k).chart) ∧ t.policy = (s.staging k).policy := by
  have slot : (emptySlots k (stagedCommit s k p m c) s).staging k
      = { s.staging k with
          profile := if (named p (s.staging k).profile).isSome then none else (s.staging k).profile,
          map := if (named m (stagedMap (s.staging k))).isSome then Vector.replicate 16 none else (s.staging k).map,
          chart := if (named c (s.staging k).chart).isSome then none else (s.staging k).chart } :=
    vector_set_self s.site.staging k _
  dsimp only
  rw [slot, named_isSome complete.profile, named_isSome complete.map, named_isSome complete.chart]
  refine ⟨rfl, fun i => ?_, rfl, rfl⟩
  dsimp only
  split
  · exact vector_replicate none i
  · rfl

theorem replaceStructural_of_none {k : Crane} {s : State} (h : s.site.structural[k] = none) : replaceStructural k s = s := by
  unfold replaceStructural
  rw [h]

/-- Settles O45, by the tables, the staging area and the frame the commit leaves. -/
theorem structuralCommitAppliesInConfig : Obligations.StructuralCommitAppliesInConfig := by
  intro tag tgt set k p m c s g w after target selected config idle profile map chart crane checks
  have complete : Complete s k p m c := ⟨profile, map, chart⟩
  have taken : commit tag tgt set s = (.ok, activate k (stagedCommit s k p m c) (emptySlots k (stagedCommit s k p m c) s)) := by
    rw [commit_of_passing target selected complete (by rw [config]; exact fun h => (nomatch h.1)) crane checks, takeStructural,
      replaceStructural_of_none (s := emptySlots k (stagedCommit s k p m c) s) idle]
    exact if_pos config
  obtain ⟨slotP, slotM, slotC, slotW⟩ := emptied_staging complete
  refine ⟨_, exec_answered (q := .commit) taken, rfl, ?_, ?_, ?_, slotP, slotM, slotC, slotW, fun j h => ?_, rfl⟩
  · exact (vector_set_self _ k _).trans (named_or profile _)
  · exact (vector_set_self _ k _).trans (named_or map _)
  · exact (vector_set_self _ k _).trans (named_or chart _)
  · exact ⟨vector_set_ne _ h _, vector_set_ne _ h _, vector_set_ne _ h _, vector_set_ne _ h _⟩

theorem atRest_congr {s t : State} (poses : t.poses = s.poses) (lanes : t.lanes = s.lanes) (bookings : t.bookings = s.bookings)
    (vanes : t.vanes = s.vanes) (k : Crane) : atRest t k = atRest s k := by
  unfold atRest
  rw [pose_congr poses, lane_congr lanes, activeBooking_congr bookings, vane_congr vanes]

/-- A pending structural commit is discarded and reported REPLACED with its tag (R17). -/
theorem replaceStructural_of_some {k : Crane} {old : StructuralCommit} {s : State} (h : s.site.structural[k] = some old) :
    replaceStructural k s = offer
      { kind := .commitResult, crane := some k, value := ((s.mgmt.structuralTag[k]).map (·.toNat)).getD 0 * 256 + 2 }
      (setStructuralTag k none (setStructural k none s)) := by
  unfold replaceStructural
  rw [h]
  rfl

theorem emptySlots_within (k : Crane) (c : StructuralCommit) (s : State) : Within { site := true } s (emptySlots k c s) :=
  setSite_within _ _

/-- What a replaced commit leaves: the pending commits and tags of the other cranes, and its own report. -/
theorem replaceStructural_eq (k : Crane) (s : State) : ∃ commits tags noted,
    replaceStructural k s = { s with site := { s.site with structural := commits },
                                     mgmt := { s.mgmt with structuralTag := tags }, recorder := noted }
      ∧ (∀ j, j ≠ k → commits[j] = s.site.structural[j] ∧ tags[j] = s.mgmt.structuralTag[j])
      ∧ (s.site.structural[k] = none → noted = s.recorder)
      ∧ ∀ old, s.site.structural[k] = some old → noted = (offer
          { kind := .commitResult, crane := some k,
            value := ((s.mgmt.structuralTag[k]).map (·.toNat)).getD 0 * 256 + 2 } s).recorder := by
  cases pending : s.site.structural[k] with
  | none =>
    rw [replaceStructural_of_none pending]
    exact ⟨_, _, _, rfl, fun j _ => ⟨rfl, rfl⟩, fun _ => rfl, fun _ h => (nomatch h)⟩
  | some old =>
    have told := offer_recorder_congr (s := s) (t := setStructuralTag k none (setStructural k none s))
      { kind := .commitResult, crane := some k, value := ((s.mgmt.structuralTag[k]).map (·.toNat)).getD 0 * 256 + 2 } rfl rfl
    rw [replaceStructural_of_some pending]
    generalize ((s.mgmt.structuralTag[k]).map (·.toNat)).getD 0 * 256 + 2 = value at told ⊢
    have w := offer_within ⟨.commitResult, some k, none, none, value, false⟩ (setStructuralTag k none (setStructural k none s))
    exact ⟨_, _, _, w.frame, fun j h => ⟨vector_set_ne _ h _, vector_set_ne _ h _⟩, fun h => (nomatch h), fun _ _ => told⟩

/-- Settles O46, by what the pending commit and the one it replaces leave. -/
theorem structuralCommitWaitsForRest : Obligations.StructuralCommitWaitsForRest := by
  intro tag tgt set k p m c s g w after target selected operating moving profile map chart presence crane checks
  have complete : Complete s k p m c := ⟨profile, map, chart⟩
  obtain ⟨commits, tags, noted, replaces, others, quiet, told⟩ :=
    replaceStructural_eq k (emptySlots k (stagedCommit s k p m c) s)
  obtain ⟨slotP, slotM, slotC, slotW⟩ := emptied_staging complete
  have within : Within { site := true, mgmt := true } s (replaceStructural k (emptySlots k (stagedCommit s k p m c) s)) :=
    (replaceStructural_within _ _).after (emptySlots_within _ _ _).mono
  have resting := (atRest_congr (within.poses rfl) (within.lanes rfl) (within.bookings rfl) (within.vanes rfl) k).trans moving
  have taken : commit tag tgt set s = (.pending, setStructuralTag k (some tag) (setStructural k (some (stagedCommit s k p m c))
      (replaceStructural k (emptySlots k (stagedCommit s k p m c) s)))) := by
    rw [commit_of_passing target selected complete (fun h => h.2.2 (presence h.2.1)) crane checks, takeStructural,
      if_neg (by rw [within.mode, operating]; exact nofun), resting, if_neg Bool.false_ne_true]
  rw [replaces] at taken
  refine ⟨_, exec_answered (q := .commit) taken, rfl, vector_set_self _ k _, vector_set_self _ k _, slotP, slotM, slotC, slotW,
    quiet, fun old pending => (told old pending).trans (offer_recorder_congr _ rfl rfl), fun j h => ⟨vector_set_ne _ h _, ?_, ?_⟩,
    rfl⟩
  · exact (vector_set_ne _ h _).trans (others j h).1
  · exact (vector_set_ne _ h _).trans (others j h).2

/-! ### Policy commits (R19) -/

theorem replacePolicy_of_none {k : Crane} {s : State} (h : s.site.policyCommit[k] = none) : replacePolicy k s = s := by
  unfold replacePolicy
  rw [h]

/-- Settles O47, by the mode. -/
theorem policyCommitAppliesOrWaits : Obligations.PolicyCommitAppliesOrWaits := by
  intro tag tgt k p s target staged crane order idle
  have emptied : replacePolicy k (s.setStaging k { s.staging k with policy := none })
      = s.setStaging k { s.staging k with policy := none } := replacePolicy_of_none idle
  have judged : commit tag tgt 8#8 s = commitPolicy k tag s := by
    rw [commit_of_crane target]
    rfl
  have policy : (s.staging k).policy = some p := staged
  cases mode : s.mode with
  | config =>
    have taken : commit tag tgt 8#8 s = (.ok, { s with site := { s.site with
        policies := s.site.policies.set k (some p),
        staging := s.site.staging.set k { s.staging k with policy := none } } }) := by
      rw [judged, commitPolicy, policy]
      dsimp only
      rw [crane, if_neg (by decide), order, if_neg (by decide), emptied]
      exact if_pos mode
    exact ⟨_, exec_answered (q := .commit) taken, vector_set_self _ k _,
      fun _ => ⟨vector_set_self _ k _, rfl, rfl, rfl⟩, fun h => (nomatch h),
      fun j h => ⟨vector_set_ne _ h _, vector_set_ne _ h _, rfl, rfl⟩, by congr 1⟩
  | operating =>
    have taken : commit tag tgt 8#8 s = (.pending, { s with
        site := { s.site with staging := s.site.staging.set k { s.staging k with policy := none },
                              policyCommit := s.site.policyCommit.set k (some p) },
        mgmt := { s.mgmt with policyTag := s.mgmt.policyTag.set k (some tag) } }) := by
      rw [judged, commitPolicy, policy]
      dsimp only
      rw [crane, if_neg (by decide), order, if_neg (by decide), emptied]
      refine if_neg fun h => ?_
      cases mode.symm.trans h
    exact ⟨_, exec_answered (q := .commit) taken, vector_set_self _ k _, fun h => (nomatch h),
      fun _ => ⟨rfl, vector_set_self _ k _, vector_set_self _ k _, rfl⟩,
      fun j h => ⟨rfl, vector_set_ne _ h _, vector_set_ne _ h _, vector_set_ne _ h _⟩, by congr 1⟩

/-! ### Zone table commits (R20, R69) -/

/-- The permission item a zone has under a new table (R69). -/
def alignedPerm (s : State) (table : ZoneTable) (z : Zone) : Perm :=
  if table[z].present then
    if zonePresent s z && (s.perm z).override then s.perm z else ⟨table[z].base, false, none⟩
  else ⟨noPerms, false, none⟩

/-- The state in which a new zone table is active and its staging empty. -/
def tabledState (s : State) (table : ZoneTable) : State :=
  s.setSite { s.site with zoneTable := some table, zoneStaging := Vector.replicate 4 none }

theorem alignPerm_eq {s t : State} {table : ZoneTable} (site : t.site = (tabledState s table).site) (z : Zone) :
    (table[z].present = true → alignPerm s.site.zoneTable t z
        = if zonePresent s z && (t.perm z).override then t else t.setPerm z ⟨table[z].base, false, none⟩)
      ∧ (table[z].present = false → alignPerm s.site.zoneTable t z
        = (t.setPerm z ⟨noPerms, false, none⟩).setGrants (t.access.grants.filter fun g => !(g.zone == z))) := by
  have shown : zonePresent t z = table[z].present := by
    unfold zonePresent
    rw [site]
    rfl
  have base : table[z].present = true → basePerms t z = table[z].base := fun present => by
    unfold basePerms
    rw [site]
    exact if_pos present
  have was : (match s.site.zoneTable with | none => false | some t => t[z].present) = zonePresent s z := rfl
  refine ⟨fun present => ?_, fun absent => ?_⟩
  · unfold alignPerm
    dsimp only
    rw [shown, if_pos present, base present]
    rfl
  · unfold alignPerm
    dsimp only
    rw [shown, absent, if_neg Bool.false_ne_true]
    rfl

theorem alignPerm_perm {s t : State} {table : ZoneTable} (site : t.site = (tabledState s table).site) (y z : Zone) :
    (alignPerm s.site.zoneTable t y).perm z = if z = y then
        (if table[y].present then
          if zonePresent s y && (t.perm y).override then t.perm y else ⟨table[y].base, false, none⟩
        else ⟨noPerms, false, none⟩)
      else t.perm z := by
  obtain ⟨kept, gone⟩ := alignPerm_eq site y
  cases present : table[y].present with
  | true =>
    rw [kept present, if_pos rfl]
    split
    · by_cases at_ : z = y
      · rw [if_pos at_, at_]
      · rw [if_neg at_]
    · exact State.setPerm_perm ..
  | false =>
    rw [gone present, if_neg Bool.false_ne_true]
    exact State.setPerm_perm ..

theorem alignPerm_grants {s t : State} {table : ZoneTable} (site : t.site = (tabledState s table).site) (y : Zone) (g : Grant) :
    g ∈ (alignPerm s.site.zoneTable t y).access.grants
      ↔ g ∈ t.access.grants ∧ (g.zone = y → table[y].present = true) := by
  obtain ⟨kept, gone⟩ := alignPerm_eq site y
  cases present : table[y].present with
  | true =>
    rw [kept present]
    have same : (if (zonePresent s y && (t.perm y).override) = true then t
        else t.setPerm y ⟨table[y].base, false, none⟩).access.grants = t.access.grants := by
      split
      · rfl
      · rfl
    rw [same]
    exact ⟨fun h => ⟨h, fun _ => rfl⟩, And.left⟩
  | false =>
    rw [gone present]
    show g ∈ t.access.grants.filter _ ↔ _
    rw [List.mem_filter, Bool.not_eq_true', beq_eq_false_iff_ne]
    exact and_congr_right fun _ => ⟨fun ne same => absurd same ne, fun absent same => Bool.false_ne_true (absent same)⟩

/-- The state in which the permissions have been brought into line with a new table. -/
def alignedState (s : State) (table : ZoneTable) : State :=
  allZones.foldl (alignPerm s.site.zoneTable) (tabledState s table)

theorem alignedState_within (s : State) (table : ZoneTable) :
    Within { access := true } (tabledState s table) (alignedState s table) :=
  foldl_within (alignPerm_within _) _ _

theorem alignedState_perm (s : State) (table : ZoneTable) (z : Zone) : (alignedState s table).perm z = alignedPerm s table z := by
  obtain ⟨t, site, same, at_⟩ := foldl_zones_at (f := alignPerm s.site.zoneTable) (z := z) (s := tabledState s table)
    (I := fun t => t.site = (tabledState s table).site) (read := fun t => t.perm z)
    (fun t y ht => ((alignPerm_within _ t y).site rfl).trans ht)
    (fun t y ht h => (alignPerm_perm ht y z).trans (if_neg h.symm)) rfl
  unfold alignedState alignedPerm
  rw [at_, alignPerm_perm site, if_pos rfl, same]
  rfl

theorem alignedState_grants (s : State) (table : ZoneTable) (g : Grant) :
    g ∈ (alignedState s table).access.grants ↔ g ∈ s.access.grants ∧ table[g.zone].present = true := by
  obtain ⟨t, site, same, at_⟩ := foldl_zones_at (f := alignPerm s.site.zoneTable) (z := g.zone) (s := tabledState s table)
    (I := fun t => t.site = (tabledState s table).site) (read := fun t => g ∈ t.access.grants)
    (fun t y ht => ((alignPerm_within _ t y).site rfl).trans ht)
    (fun t y ht h => propext ((alignPerm_grants ht y g).trans (and_iff_left fun at_ => absurd at_.symm h))) rfl
  unfold alignedState
  rw [at_, alignPerm_grants site, same]
  exact and_congr_right fun _ => ⟨fun h => h rfl, fun h _ => h⟩

theorem applyZoneTable_after (s : State) (table : ZoneTable) :
    Within { air := true, vanes := true } (alignedState s table) (applyZoneTable table s) :=
  (foldl_within (fun s z => judgeLimit_within z s) _ _).after (reexamine_within s (alignedState s table))

/-- Settles O48, zone by zone and grant by grant. -/
theorem zoneTableCommitApplies : Obligations.ZoneTableCommitApplies := by
  intro tag tgt table s site staged present heights
  have taken : commit tag tgt 16#8 s = (.ok, applyZoneTable table s) := by
    rw [commit, site, if_pos rfl, show commitForSite 16#8 s = commitZoneTable s from rfl, commitZoneTable, staged]
    dsimp only
    rw [present]
    dsimp only
    rw [heights]
  have after := applyZoneTable_after s table
  have aligned := alignedState_within s table
  have w : Within { air := true, vanes := true, access := true } (tabledState s table) (applyZoneTable table s) :=
    after.after aligned.mono
  have access := after.access rfl
  have tabled : (applyZoneTable table s).site = (tabledState s table).site := w.site rfl
  have perm (z : Zone) : (applyZoneTable table s).perm z = alignedPerm s table z := by
    rw [← alignedState_perm]
    unfold State.perm
    rw [access]
  have grants (g : Grant) : g ∈ (applyZoneTable table s).access.grants ↔ g ∈ s.access.grants ∧ table[g.zone].present = true := by
    rw [access]
    exact alignedState_grants s table g
  have frame : applyZoneTable table s = { s with
      site := { s.site with zoneTable := (applyZoneTable table s).site.zoneTable,
                            zoneStaging := (applyZoneTable table s).site.zoneStaging },
      air := (applyZoneTable table s).air, access := (applyZoneTable table s).access,
      vanes := (applyZoneTable table s).vanes, recorder := (applyZoneTable table s).recorder } := by
    rw [tabled]
    exact w.frame
  generalize applyZoneTable table s = t at taken tabled perm grants frame
  refine ⟨_, exec_answered (q := .commit) taken, rfl, ?_, fun i => ?_, fun z there before override => ?_,
    fun z there dropped => ?_, fun z gone => ?_, grants, ?_⟩
  · exact congrArg Site.zoneTable tabled
  · exact (congrArg (fun x : Site => x.zoneStaging[i]) tabled).trans (vector_replicate none i)
  · refine (perm z).trans ?_
    rw [alignedPerm, if_pos there, before, override]
    rfl
  · refine (perm z).trans ?_
    rw [alignedPerm, if_pos there]
    exact if_neg fun both => dropped (Bool.and_eq_true_iff.1 both)
  · refine (perm z).trans ?_
    rw [alignedPerm, gone]
    rfl
  · exact congrArg (fun u : State => { u with sent := s.sent ++ [responseFrame .commit tag .ok] }) frame

end Sys2Proof.Machine

/-! PROOFS. COMMENCE (R164): the monitors, the settling marks, the control states and the start-up decisions. -/

namespace Sys2Proof.Machine

set_option Elab.async false

/-! ### One crane of a fold over the cranes -/

theorem mem_allCranes (k : Crane) : k ∈ allCranes := List.mem_finRange k

theorem allCranes_nodup : allCranes.Nodup := List.nodup_finRange 8

/-- What a fold over the cranes reads of crane k. -/
theorem foldl_cranes_at {β : Type} {f : State → Crane → State} {I : State → Prop} {read : State → β} {k : Crane} {s : State}
    (keep : ∀ t j, I t → I (f t j)) (other : ∀ t j, I t → j ≠ k → read (f t j) = read t) (hs : I s) :
    ∃ t, I t ∧ read t = read s ∧ read (allCranes.foldl f s) = read (f t k) :=
  foldl_at allCranes_nodup (mem_allCranes k) keep other hs

/-! ### The start-up decision, by what it does (R129) -/

theorem startUpAtCommence_cases (s : State) (k : Crane) : startUpAtCommence s k = s
    ∨ cranePresent s k = true ∧ ∃ prof, startUpAtCommence s k = enterPreparing k prof (forceStow k s).2
      ∨ startUpAtCommence s k = suspend k .wind (enterPreparing k prof (forceStow k s).2) := by
  unfold startUpAtCommence
  split
  · exact .inl rfl
  · rename_i prof tables
    split
    · rename_i starts
      refine .inr ⟨?_, prof, ?_⟩
      · unfold cranePresent
        rw [tables]
        exact starts.1
      · show (if (forceStow k s).1 = [] then _ else _) = _ ∨ (if (forceStow k s).1 = [] then _ else _) = _
        split
        · exact .inl rfl
        · exact .inr rfl
    · exact .inl rfl

/-! ### What the passes leave of the Zone Arbiter records -/

namespace WaitsFall

variable {s t : State}

theorem withdrawWait (c : Crane) (s : State) : WaitsFall s (withdrawWait c s) := by
  unfold Machine.withdrawWait
  split
  · exact refl s
  · exact (setArb c _ rfl (.inr rfl)).trans (of_arb fun j => settleEntry_arb c _ _ j)

theorem sweepZone (k : Crane) (s : State) (z : Zone) : WaitsFall s (sweepZone k s z) := by
  unfold Machine.sweepZone
  dsimp only
  split
  · exact of_arb fun _ => rfl
  · split
    · exact of_arb fun _ => rfl
    · exact of_arb fun j => (markVacate_arb z _ _ j).trans rfl
  · exact refl s

theorem enterPreparing (k : Crane) (prof : Profile) (s : State) : WaitsFall s (enterPreparing k prof s) := by
  have vaned := (refl s).within (setVaneRec_within k ⟨.preparing, some s.now, some (s.now + 1000 * prof.vaneTimeout), false⟩ s)
  exact (foldl_keeps (fun t z ht => ht.trans (sweepZone k t z)) _ _ (vaned.trans (withdrawWait k _))).trans
    (of_arb fun j => arb_congr ((checkVaning_within k _).air rfl) j)

theorem startUpAtCommence (s : State) (k : Crane) : WaitsFall s (startUpAtCommence s k) := by
  have vaned (prof : Profile) : WaitsFall s (Machine.enterPreparing k prof (forceStow k s).2) :=
    ((refl s).within (forceStow_within k s)).trans (enterPreparing k prof _)
  rcases startUpAtCommence_cases s k with same | ⟨-, prof, same | same⟩
  · rw [same]
    exact refl s
  · rw [same]
    exact vaned prof
  · rw [same]
    exact (vaned prof).trans (suspend k .wind _)

theorem legEntry (k : Crane) (s : State) : WaitsFall s (legEntry k s) := by
  refine ((foldl_keeps (P := WaitsFall s) (fun t z ht => ?_) _ _ (refl s)).trans (placeReservation k _)).trans
    (of_arb fun j => rejudgeEntries_arb k _ j)
  unfold takeLegZone
  split
  · split
    · exact ht.trans (of_arb fun _ => rfl)
    · exact ht
  · split
    · exact ht.trans (of_arb fun _ => rfl)
    · exact ht
  · exact ht

theorem judgeResume (k : Crane) (s : State) : WaitsFall s (judgeResume k s) := by
  unfold Machine.judgeResume
  split
  · exact refl s
  · split
    · exact (((refl s).within (updateBooking_within _ _ s)).trans (legEntry k _)).within (reportBooking_within _ _)
    · exact refl s

end WaitsFall

/-! ### What the passes leave of the Capture Buffer -/

namespace CaptureKept

variable {s t : State}

theorem setWind (h : CaptureKept s t) (k : Crane) (w : WindRec) : CaptureKept s (t.setWind k w) := h.trans (of_recorder rfl)

theorem setLevel (h : CaptureKept s t) (k : Crane) (l : WindLevel) : CaptureKept s (setLevel k l t) :=
  ite (h.setWind k _) ((h.setWind k _).offer _)

theorem setVaneRec (h : CaptureKept s t) (k : Crane) (v : VaneRec) : CaptureKept s (setVaneRec k v t) :=
  ite (h.setVane k v) ((h.setVane k v).offer _)

theorem initialise (h : CaptureKept s t) (k : Crane) (running : Bool) : CaptureKept s (initialise k running t).2 :=
  (h.setLevel k .calm).setWind k _

theorem sweepZone (h : CaptureKept s t) (k : Crane) (z : Zone) : CaptureKept s (sweepZone k t z) := by
  unfold Machine.sweepZone
  dsimp only
  split
  · exact h.setZone z _
  · split
    · exact h.setZone z _
    · exact (h.setZone z _).trans (markVacate z _ _)
  · exact h

theorem enterPreparing (h : CaptureKept s t) (k : Crane) (prof : Profile) : CaptureKept s (enterPreparing k prof t) :=
  (foldl_keeps (fun _ z ht => ht.sweepZone k z) _ _ ((h.setVaneRec k _).withdrawWait k)).checkVaning k

theorem startUpAtCommence (h : CaptureKept s t) (k : Crane) : CaptureKept s (startUpAtCommence t k) := by
  have vaned (prof : Profile) : CaptureKept s (Machine.enterPreparing k prof (forceStow k t).2) :=
    ((h.setWind k _).setLevel k .stow).enterPreparing k prof
  rcases startUpAtCommence_cases t k with same | ⟨-, prof, same | same⟩
  · rw [same]
    exact h
  · rw [same]
    exact vaned prof
  · rw [same]
    exact (vaned prof).suspend k .wind

theorem legEntry (h : CaptureKept s t) (k : Crane) : CaptureKept s (legEntry k t) := by
  refine ((foldl_keeps (P := CaptureKept s) (fun u z hu => ?_) _ _ h).placeReservation k).rejudgeEntries k
  unfold takeLegZone
  split
  · exact ite (hu.setZone z _) hu
  · exact ite (hu.setZone z _) hu
  · exact hu

theorem judgeResume (h : CaptureKept s t) (k : Crane) : CaptureKept s (judgeResume k t) := by
  have updated (b : Booking) : CaptureKept s (updateBooking b.id (fun b => { b with state := .active }) t) :=
    h.trans (of_recorder rfl)
  unfold Machine.judgeResume
  split
  · exact h
  · exact ite (((updated _).legEntry k).reportBooking _) h

theorem startOperating (s : State) : CaptureKept s (startOperating s) :=
  startOperating_keeps s (of_recorder rfl) (fun _ k h => ite (h.initialise k true) h)
    (fun _ k h => h.setArb k _) (fun _ k h => ite (h.setControl k .run) h) (fun _ k h => h.startUpAtCommence k)
    (fun _ k h => h.judgeResume k)

end CaptureKept

/-! ### The passes over the cranes -/

/-- The first pass: the monitors. -/
def monitoredState (s : State) : State := allCranes.foldl startMonitor { s with mode := .operating }

/-- The second pass: the settling marks. -/
def markedState (s : State) : State := allCranes.foldl (fun t k => markSettling k t) (monitoredState s)

/-- The third pass: the control states. -/
def runningState (s : State) : State := allCranes.foldl runPresent (markedState s)

/-- What the start-up decisions and the resumptions keep holds after COMMENCE when it holds before them. -/
theorem startOperating_of_running {P : State → Prop} {s : State} (hs : P (runningState s))
    (startUp : ∀ t k, P t → P (startUpAtCommence t k)) (resume : ∀ t k, P t → P (judgeResume k t)) : P (startOperating s) :=
  foldl_keeps resume _ _ (foldl_keeps startUp _ _ hs)

theorem monitoredState_within (s : State) : Within { winds := true } { s with mode := .operating } (monitoredState s) :=
  foldl_within startMonitor_within _ _

theorem markedState_within (s : State) : Within { air := true } (monitoredState s) (markedState s) :=
  foldl_within (fun t k => markSettling_within k t) _ _

theorem runningState_within (s : State) : Within { lanes := true } (markedState s) (runningState s) :=
  foldl_within runPresent_within _ _

theorem monitoredState_site (s : State) : (monitoredState s).site = s.site := (monitoredState_within s).site rfl

theorem markedState_site (s : State) : (markedState s).site = s.site :=
  ((markedState_within s).site rfl).trans (monitoredState_site s)

/-! ### The monitors, the control states and the settling marks -/

/-- A monitor as it is initialised RUNNING, at CALM or forced to STOW (R103, R129). -/
structure WindRec.Fresh (w : WindRec) : Prop where
  running : w.running = true
  window : w.window = []
  level : w.level = .calm ∨ w.level = .stow

/-- After the first pass of COMMENCE over the cranes before: the monitors of present cranes are fresh, the others as they were. -/
structure Started (s t : State) : Prop where
  site : t.site = s.site
  fresh : ∀ k, cranePresent s k = true → (t.wind k).Fresh
  absent : ∀ k, cranePresent s k = false → t.wind k = s.wind k

theorem cranePresent_congr {s t : State} (site : t.site = s.site) (k : Crane) : cranePresent t k = cranePresent s k := by
  unfold cranePresent State.profile
  rw [site]

theorem initialise_wind (j k : Crane) (running : Bool) (s : State) :
    (initialise j running s).2.wind k = if k = j then WindRec.initial running else s.wind k := by
  unfold initialise
  dsimp only
  rw [State.setWind_wind]
  by_cases same : k = j
  · rw [if_pos same, if_pos same]
  · rw [if_neg same, if_neg same, wind_congr (setLevel_winds j .calm s), State.setWind_wind_ne _ _ _ _ same]

theorem startMonitor_wind (s : State) (j k : Crane) : (startMonitor s j).wind k
    = if k = j ∧ cranePresent s j = true then WindRec.initial true else s.wind k := by
  unfold startMonitor
  by_cases present : cranePresent s j = true
  · rw [if_pos present, initialise_wind]
    exact if_congr (and_iff_left present).symm rfl rfl
  · rw [if_neg present, if_neg fun h => present h.2]

theorem monitoredState_wind (s : State) (k : Crane) :
    (monitoredState s).wind k = if cranePresent s k = true then WindRec.initial true else s.wind k := by
  obtain ⟨t, site, same, read⟩ := foldl_cranes_at (f := startMonitor) (k := k) (s := { s with mode := .operating })
    (I := fun t => t.site = s.site) (read := fun t => t.wind k) (fun t j ht => ((startMonitor_within t j).site rfl).trans ht)
    (fun t j _ h => by rw [startMonitor_wind, if_neg fun hit => h hit.1.symm]) rfl
  rw [monitoredState, read, startMonitor_wind, cranePresent_congr site, same]
  by_cases present : cranePresent s k = true
  · rw [if_pos ⟨rfl, present⟩, if_pos present]
  · rw [if_neg fun h => present h.2, if_neg present]
    rfl

theorem monitoredState_started (s : State) : Started s (monitoredState s) := by
  refine ⟨monitoredState_site s, fun k present => ?_, fun k absent => ?_⟩
  · rw [monitoredState_wind, if_pos present]
    exact ⟨rfl, rfl, .inl rfl⟩
  · rw [monitoredState_wind, absent, if_neg Bool.false_ne_true]

namespace Started

variable {s t u : State}

theorem winds (h : Started s t) (site : u.site = t.site) (winds : u.winds = t.winds) : Started s u where
  site := site.trans h.site
  fresh k present := by
    rw [wind_congr winds]
    exact h.fresh k present
  absent k gone := by
    rw [wind_congr winds]
    exact h.absent k gone

theorem forceStow (h : Started s t) {k : Crane} (present : cranePresent t k = true) : Started s (forceStow k t).2 := by
  have there : cranePresent s k = true := (cranePresent_congr h.site k).symm.trans present
  have wind (j : Crane) : (Machine.forceStow k t).2.wind j
      = if j = k then { t.wind k with raiseAlert := 0, raiseHold := 0, raiseStow := 0, clearCount := 0, level := .stow }
        else t.wind j := by
    unfold Machine.forceStow
    dsimp only
    rw [wind_congr (setLevel_winds k .stow _), State.setWind_wind]
    split
    · rw [State.setWind_wind_self]
    · rename_i other
      exact State.setWind_wind_ne _ _ _ _ other
  refine ⟨((forceStow_within k t).site rfl).trans h.site, fun j here => ?_, fun j gone => ?_⟩
  · obtain ⟨running, window, level⟩ := h.fresh j here
    rw [wind]
    split
    · rename_i same
      exact ⟨same ▸ running, same ▸ window, .inr rfl⟩
    · exact ⟨running, window, level⟩
  · rw [wind, if_neg ?_]
    · exact h.absent j gone
    · rintro rfl
      rw [there] at gone
      cases gone

theorem startUpAtCommence (h : Started s t) (k : Crane) : Started s (startUpAtCommence t k) := by
  rcases startUpAtCommence_cases t k with same | ⟨present, prof, same⟩
  · rw [same]
    exact h
  · have forced := h.forceStow present
    have vaned := forced.winds ((enterPreparing_within k prof _).site rfl) ((enterPreparing_within k prof _).winds rfl)
    rcases same with same | same
    · rw [same]
      exact vaned
    · rw [same]
      exact vaned.winds ((suspend_within k .wind _).site rfl) ((suspend_within k .wind _).winds rfl)

theorem startOperating (s : State) : Started s (startOperating s) := by
  have marked := (monitoredState_started s).winds ((markedState_within s).site rfl) ((markedState_within s).winds rfl)
  refine startOperating_of_running (marked.winds ((runningState_within s).site rfl) ((runningState_within s).winds rfl))
    (fun _ k ht => ht.startUpAtCommence k) fun t k ht => ?_
  exact ht.winds ((judgeResume_within k t).site rfl) ((judgeResume_within k t).winds rfl)

end Started

theorem runPresent_lane (s : State) (j k : Crane) : (runPresent s j).lane k
    = if k = j ∧ cranePresent s j = true then { s.lane k with control := .run } else s.lane k := by
  unfold runPresent
  by_cases present : cranePresent s j = true
  · rw [if_pos present, lane_congr (setControl_lanes j .run s), State.setLane_lane]
    by_cases same : k = j
    · rw [if_pos same, if_pos ⟨same, present⟩, same]
    · rw [if_neg same, if_neg fun h => same h.1]
  · rw [if_neg present, if_neg fun h => present h.2]

theorem runningState_lane (s : State) (k : Crane) : (runningState s).lane k
    = if cranePresent s k = true then { s.lane k with control := .run } else s.lane k := by
  obtain ⟨t, site, same, read⟩ := foldl_cranes_at (f := runPresent) (k := k) (s := markedState s) (I := fun t => t.site = s.site)
    (read := fun t => t.lane k) (fun t j ht => ((runPresent_within t j).site rfl).trans ht)
    (fun t j _ h => by rw [runPresent_lane, if_neg fun hit => h hit.1.symm]) (markedState_site s)
  have before : (markedState s).lane k = s.lane k :=
    (lane_congr ((markedState_within s).lanes rfl) k).trans (lane_congr ((monitoredState_within s).lanes rfl) k)
  rw [runningState, read, runPresent_lane, cranePresent_congr site, same, before]
  by_cases present : cranePresent s k = true
  · rw [if_pos ⟨rfl, present⟩, if_pos present]
  · rw [if_neg fun h => present h.2, if_neg present]

theorem startOperating_lane (s : State) (k : Crane) : (startOperating s).lane k
    = if cranePresent s k = true then { s.lane k with control := .run } else s.lane k := by
  rw [← runningState_lane]
  exact startOperating_of_running (P := fun t => t.lane k = (runningState s).lane k) rfl
    (fun t j ht => (lane_congr (startUpAtCommence_lanes t j) k).trans ht)
    (fun t j ht => (lane_congr ((judgeResume_within j t).lanes rfl) k).trans ht)

theorem markedState_settling (s : State) (k : Crane) : ((markedState s).arb k).settling = true := by
  obtain ⟨t, -, -, read⟩ := foldl_cranes_at (f := fun t k => markSettling k t) (k := k) (s := monitoredState s)
    (I := fun _ => True) (read := fun t => (t.arb k).settling) (fun _ _ h => h)
    (fun t j _ h => congrArg ArbRec.settling (State.setArb_arb_ne t j _ k h.symm)) trivial
  refine read.trans ?_
  unfold markSettling
  rw [State.setArb_arb_self]

theorem WaitsFall.settling {s t : State} (h : WaitsFall s t) {k : Crane} (hs : (s.arb k).settling = true) :
    (t.arb k).settling = true := by
  rw [h.frame k]
  exact hs

theorem startOperating_settling (s : State) (k : Crane) : ((startOperating s).arb k).settling = true :=
  startOperating_of_running (P := fun t => (t.arb k).settling = true)
    (((WaitsFall.refl _).within (runningState_within s)).settling (markedState_settling s k))
    (fun t j ht => (WaitsFall.startUpAtCommence t j).settling ht) (fun t j ht => (WaitsFall.judgeResume j t).settling ht)

/-- Settles O49, pass by pass over the cranes. -/
theorem commenceStartsOperating : Obligations.CommenceStartsOperating := by
  intro tag tgt s site config passes
  have taken : commence tgt s = (.ok, startOperating s) := by
    rw [commence, site, if_neg (by decide), if_neg (by rw [config]; exact nofun), passes]
  have w := startOperating_within s
  have started := Started.startOperating s
  have kept := CaptureKept.startOperating s
  have lane := startOperating_lane s
  have settling := startOperating_settling s
  have frame : startOperating s = { s with
      mode := (startOperating s).mode, lanes := (startOperating s).lanes,
      air := (startOperating s).air, winds := (startOperating s).winds, vanes := (startOperating s).vanes,
      bookings := (startOperating s).bookings, recorder := (startOperating s).recorder } := by
    rw [w.mode]
    exact w.frame
  have counters := w.recorder.counters rfl
  have settings := w.recorder.settings rfl
  have mode := w.mode
  clear w
  generalize startOperating s = t at taken started kept lane settling frame counters settings mode
  refine ⟨_, exec_answered (q := .commence) taken, rfl, mode, settling, fun k present => ?_, fun k absent => ?_, counters, settings,
    kept.capture, kept.missed, congrArg (fun u : State => { u with sent := s.sent ++ [responseFrame .commence tag .ok] }) frame⟩
  · obtain ⟨running, window, level⟩ := started.fresh k present
    refine ⟨running, window, level, (lane k).trans ?_⟩
    rw [if_pos present]
  · refine ⟨started.absent k absent, (lane k).trans ?_⟩
    rw [absent, if_neg Bool.false_ne_true]

end Sys2Proof.Machine

/-! PROOFS. SITE RESET (R165): every block at its reset values, and every ACTIVE booking suspended. -/

namespace Sys2Proof.Machine

set_option Elab.async false

/-! ### The suspensions, booking by booking (R145, R146) -/

theorem suspendedRecord_congr {s t : State} (clock : t.clock = s.clock) : suspendedRecord t = suspendedRecord s := by
  unfold suspendedRecord ended
  rw [clock]

theorem suspendedRecord_eq (s : State) (overtime : Bool) (why : SuspendReason) (b : Booking) :
    suspendedRecord s overtime why b = { b with
      state := if overtime = true then .lapsed else .suspended
      reason := some why
      suspensions := min 255 (b.suspensions + 1)
      outcome := if overtime = true then { b.outcome with endTime := some s.clock.siteTime } else b.outcome } := by
  cases overtime with
  | false => rfl
  | true => rfl

/-- What suspending the lifts of some cranes makes of a record. -/
def groundedBy (s : State) (why : SuspendReason) (who : Crane → Prop) [DecidablePred who] (b : Booking) : Booking :=
  if who b.crane ∧ b.state = .active then suspendedRecord s b.overtime why b else b

theorem suspend_bookings {s : State} (hs : TableKept s) (k : Crane) (why : SuspendReason) :
    (suspend k why s).bookings = s.bookings.map (groundedBy s why (· = k)) := by
  cases active : activeBooking s k with
  | none =>
    rw [suspend_of_none active]
    refine ((List.map_congr_left fun b hb => ?_).trans (List.map_id _)).symm
    exact if_neg fun h => activeBooking_eq_none active hb h.1 h.2
  | some a =>
    obtain ⟨mem, crane, flies⟩ := activeBooking_eq_some active
    rw [suspend_bookings_of_active active]
    refine List.map_congr_left fun b hb => ?_
    unfold groundedBy
    by_cases same : b = a
    · subst same
      rw [if_pos (beq_self_eq_true _), if_pos ⟨crane, flies⟩]
    · rw [if_neg fun h => same (TableSound.eq_of_id hs hb mem (beq_iff_eq.1 h)), if_neg fun h => same ?_]
      exact TableSound.eq_of_flying hs hb mem (h.1.trans crane.symm) (flying_iff.2 (.inl h.2)) (flying_iff.2 (.inl flies))

theorem suspends_bookings (why : SuspendReason) (l : List Crane) {s : State} (hs : TableKept s) :
    (l.foldl (fun t k => suspend k why t) s).bookings = s.bookings.map (groundedBy s why (· ∈ l)) := by
  induction l generalizing s with
  | nil => exact ((List.map_congr_left fun b _ => if_neg fun h => (List.not_mem_nil h.1)).trans (List.map_id _)).symm
  | cons k l ih =>
    rw [List.foldl_cons, ih (hs.suspend k why), suspend_bookings hs, List.map_map]
    refine List.map_congr_left fun b _ => ?_
    show groundedBy (suspend k why s) why (· ∈ l) (groundedBy s why (· = k) b) = _
    unfold groundedBy
    rw [suspendedRecord_congr (suspend_within k why s).clock]
    by_cases here : b.crane = k ∧ b.state = .active
    · rw [if_pos here, if_neg fun h => suspendedRecord_not_active _ _ _ _ h.2,
        if_pos ⟨List.mem_cons.2 (.inl here.1), here.2⟩]
    · rw [if_neg here]
      refine if_congr (and_congr_left fun active => ?_) rfl rfl
      exact ⟨List.mem_cons_of_mem k, fun h => (List.mem_cons.1 h).resolve_left fun same => here ⟨same, active⟩⟩

/-! ### The Zone Arbiter's records after a reset -/

/-- No zone has a holder and no crane a reservation. -/
structure Cleared (s t : State) : Prop where
  zones : ZonesReset t
  unreserved : ∀ k, (t.arb k).reservation = none
  arb : ∀ k, t.arb k = s.arb k

theorem Cleared.suspend {s t : State} (h : Cleared s t) (k : Crane) (why : SuspendReason) : Cleared s (suspend k why t) := by
  have kept (j : Crane) : (Machine.suspend k why t).arb j = t.arb j := by
    cases active : activeBooking t k with
    | none => rw [suspend_of_none active]
    | some b =>
      have updated := updateBooking_within b.id (suspendedRecord t b.overtime why) t
      have free : ((updateBooking b.id (suspendedRecord t b.overtime why) t).arb k).reservation = none := by
        rw [arb_congr (updated.air rfl)]
        exact h.unreserved k
      rw [suspend_of_active active, giveUp, (h.zones.within updated).letGo, withdrawReservation_of_none free,
        arb_congr ((reportBooking_within _ _).air rfl), rejudgeEntries_arb, arb_congr (updated.air rfl)]
  refine ⟨h.zones.suspend k why, fun j => ?_, fun j => (kept j).trans (h.arb j)⟩
  rw [kept]
  exact h.unreserved j

/-! ### The reset state -/

/-- The coordinator after R165 step 7: every block at its reset values, the lifts suspended. -/
def groundedState (s : State) : State := allCranes.foldl (fun t k => suspend k .reset t) (resetBlocks (resetSite s))

theorem groundedState_within (s : State) :
    Within { air := true, bookings := true } (resetBlocks (resetSite s)) (groundedState s) :=
  ((zonesReset_of_reset s).suspends .reset allCranes).2

theorem groundedState_cleared (s : State) : Cleared (resetBlocks (resetSite s)) (groundedState s) :=
  foldl_keeps (P := Cleared (resetBlocks (resetSite s))) (fun _ k h => h.suspend k .reset) _ _
    ⟨zonesReset_of_reset s, fun k => by rw [State.arb, resetBlocks, Air.reset]; exact congrArg _ (vector_replicate _ k), fun _ => rfl⟩

/-- Settles O50, block by block. -/
theorem siteResetTakesResetValues : Obligations.SiteResetTakesResetValues := by
  intro tag tgt s site
  have taken : siteReset tgt s = (.ok, resetRecorder (groundedState s)) := by
    rw [siteReset, site]
    rfl
  have w := groundedState_within s
  have cleared := groundedState_cleared s
  have bookings : TableKept (resetBlocks (resetSite s)) → (groundedState s).bookings = _ := suspends_bookings .reset allCranes
  generalize groundedState s = t at taken w cleared bookings
  have tables : t.site = (resetSite s).site := w.site rfl
  have mgmt : t.mgmt = (resetSite s).mgmt := w.mgmt rfl
  have staging (k : Crane) : t.staging k = .empty := (congrArg (fun x : Site => x.staging[k]) tables).trans (vector_replicate _ k)
  refine ⟨_, exec_answered (q := .siteReset) taken, ?_, w.mode, fun k => ⟨?_, ?_, ?_, ?_, ?_, ?_, ?_, ?_, ?_, fun i => ?_, ?_, ?_,
    ?_, ?_, ?_, fun i => ⟨?_, ?_⟩⟩, fun z => ⟨cleared.zones z, ?_⟩, ?_, fun i => ?_, rfl, rfl, rfl, rfl, w.recorder.settings rfl, ?_,
    fun table => (bookings table).trans ?_, ?_, ?_, ?_, ?_, ?_, w.now, w.clock, ?_, w.pending⟩
  · exact w.sent rfl ▸ rfl
  · exact (lane_congr (w.lanes rfl) k).trans (vector_replicate _ k)
  · exact (pose_congr (w.poses rfl) k).trans (vector_replicate _ k)
  · exact (cleared.arb k).trans (vector_replicate _ k)
  · exact (govRec_congr (w.gov rfl) k).trans (vector_replicate _ k)
  · exact (wind_congr (w.winds rfl) k).trans (vector_replicate _ k)
  · exact (vane_congr (w.vanes rfl) k).trans (vector_replicate _ k)
  · exact congrArg CraneStaging.profile (staging k)
  · exact congrArg CraneStaging.chart (staging k)
  · exact congrArg CraneStaging.policy (staging k)
  · exact (congrArg (fun g : CraneStaging => g.map[i]) (staging k)).trans (vector_replicate _ i)
  · exact (congrArg (fun x : Site => x.structural[k]) tables).trans (vector_replicate _ k)
  · exact (congrArg (fun x : Site => x.policyCommit[k]) tables).trans (vector_replicate _ k)
  · exact (congrArg (fun x : Mgmt => x.structuralTag[k]) mgmt).trans (vector_replicate _ k)
  · exact (congrArg (fun x : Mgmt => x.policyTag[k]) mgmt).trans (vector_replicate _ k)
  · exact congrArg CounterReport.stamp (vector_replicate _ k)
  · exact (congrArg (fun x : Vector Counter 9 => x[i]) (vector_replicate _ k)).trans (vector_replicate _ i)
  · exact (congrArg (fun x : CounterReport => x.values[i]) (vector_replicate _ k)).trans (vector_replicate _ i)
  · exact (congrArg (fun x : Access => x.perms[z]) (w.access rfl)).trans (Vector.getElem_ofFn z.isLt)
  · exact congrArg Access.grants (w.access rfl)
  · exact (congrArg (fun x : Site => x.zoneStaging[i]) tables).trans (vector_replicate _ i)
  · show (if t.recorder.settings.interval = 0 then _ else _) = _
    rw [w.recorder.settings rfl, w.now]
    rfl
  · refine List.map_congr_left fun b _ => (if_congr (and_iff_right (mem_allCranes b.crane)) ?_ rfl)
    exact suspendedRecord_eq _ b.overtime .reset b
  · exact (congrArg Site.profiles tables :)
  · exact (congrArg Site.maps tables :)
  · exact (congrArg Site.charts tables :)
  · exact (congrArg Site.policies tables :)
  · exact (congrArg Site.zoneTable tables :)
  · exact (congrArg Mgmt.assembly mgmt :)

end Sys2Proof.Machine

/-! PROOFS. Sweep-pending cranes fall away, and RESUME CRANE ends vaning (R125, R127). -/

namespace Sys2Proof.Machine

set_option Elab.async false

/-! ### Sweep-pending cranes only fall away -/

/-- From `s` to `t` the sweep-pending crane of a zone stays or becomes absent (R59). -/
def PendingFalls (s t : State) : Prop :=
  ∀ z, (t.zone z).sweepPending = (s.zone z).sweepPending ∨ (t.zone z).sweepPending = none

namespace PendingFalls

variable {s t u : State}

theorem refl (s : State) : PendingFalls s s := fun _ => .inl rfl

theorem trans (h : PendingFalls s t) (h' : PendingFalls t u) : PendingFalls s u := fun z => by
  rcases h' z with same | gone
  · rw [same]
    exact h z
  · exact .inr gone

theorem within {w : Touch} (h : PendingFalls s t) (h' : Within w t u) (air : w.air = false := by rfl) : PendingFalls s u :=
  h.trans fun z => .inl (by rw [zone_congr (h'.air air)])

theorem setArb (h : PendingFalls s t) (c : Crane) (a : ArbRec) : PendingFalls s (t.setArb c a) := h.trans fun _ => .inl rfl

theorem setZone (h : PendingFalls s t) (z : Zone) (r : ZoneRec)
    (falls : r.sweepPending = (t.zone z).sweepPending ∨ r.sweepPending = none) : PendingFalls s (t.setZone z r) :=
  h.trans fun y => by
    rw [State.setZone_zone]
    split
    · rename_i at_
      rw [at_]
      exact falls
    · exact .inl rfl

/-- A change of a zone record beside its sweep-pending crane. -/
theorem beside (h : PendingFalls s t) (z : Zone) (st : ZoneState) (v : Bool) (q : List Entry) :
    PendingFalls s (t.setZone z ⟨st, v, (t.zone z).sweepPending, q⟩) :=
  h.setZone z _ (.inl rfl)

theorem cleared (h : PendingFalls s t) (z : Zone) (st : ZoneState) (v : Bool) (q : List Entry) :
    PendingFalls s (t.setZone z ⟨st, v, none, q⟩) :=
  h.setZone z _ (.inr rfl)

theorem ite {c : Prop} [Decidable c] (ht : PendingFalls s t) (hu : PendingFalls s u) : PendingFalls s (if c then t else u) := by
  split
  · exact ht
  · exact hu

/-- It falls away from a crane that is pending nowhere. -/
theorem absent (h : PendingFalls s t) {k : Crane} (hs : ∀ z, (s.zone z).sweepPending ≠ some k) (z : Zone) :
    (t.zone z).sweepPending ≠ some k := by
  rcases h z with same | gone
  · rw [same]
    exact hs z
  · rw [gone]
    exact nofun

theorem markVacate (h : PendingFalls s t) (z : Zone) (c : VacateCause) : PendingFalls s (markVacate z c t) := by
  unfold Machine.markVacate
  split
  · exact h
  · exact ite h ((h.beside z _ _ _).within (offer_within _ _))

theorem setKind (h : PendingFalls s t) (z : Zone) (kind : HoldKind) : PendingFalls s (setKind z kind t) := by
  refine h.setZone z _ (.inl ?_)
  unfold ZoneRec.withKind
  split
  · rfl
  · rfl

theorem judgeLimit (h : PendingFalls s t) (z : Zone) : PendingFalls s (judgeLimit z t) := ite (h.markVacate z _) h

theorem clearIdleMark (h : PendingFalls s t) (z : Zone) : PendingFalls s (clearIdleMark z t) :=
  ite (h.beside z _ _ _) h

theorem refreshEntry (h : PendingFalls s t) (c : Crane) (z : Zone) : PendingFalls s (refreshEntry c z t) :=
  h.beside z _ _ _

theorem removeEntry (h : PendingFalls s t) (c : Crane) (z : Zone) : PendingFalls s (removeEntry c z t) :=
  (h.beside z _ _ _).clearIdleMark z

theorem settleEntry (h : PendingFalls s t) (c : Crane) (z : Zone) : PendingFalls s (settleEntry c z t) :=
  ite (h.refreshEntry c z) (h.removeEntry c z)

theorem joinQueue (h : PendingFalls s t) (c : Crane) (z : Zone) : PendingFalls s (joinQueue c z t) :=
  ite (h.refreshEntry c z) ((h.beside z _ _ _).judgeLimit z)

theorem withdrawWait (h : PendingFalls s t) (c : Crane) : PendingFalls s (withdrawWait c t) := by
  unfold Machine.withdrawWait
  split
  · exact h
  · exact (h.setArb c _).settleEntry c _

theorem withdrawReservation (h : PendingFalls s t) (c : Crane) : PendingFalls s (withdrawReservation c t) := by
  unfold Machine.withdrawReservation
  split
  · exact h
  · exact (h.setArb c _).settleEntry c _

theorem rejudgeEntries (h : PendingFalls s t) (c : Crane) : PendingFalls s (rejudgeEntries c t) := by
  unfold Machine.rejudgeEntries
  dsimp only
  split
  · split
    · exact h
    · exact h.refreshEntry c _
  · split
    · exact h.refreshEntry c _
    · exact (h.refreshEntry c _).refreshEntry c _

theorem dropEntry (h : PendingFalls s t) (c : Crane) (z : Zone) : PendingFalls s (dropEntry c z t) :=
  (h.setArb c _).removeEntry c z

theorem placeReservation (h : PendingFalls s t) (k : Crane) : PendingFalls s (placeReservation k t) := by
  unfold Machine.placeReservation
  split
  · exact h.withdrawReservation k
  · exact ((ite h (h.withdrawReservation k)).setArb k _).joinQueue k _

theorem grant (h : PendingFalls s t) (c : Crane) (z : Zone) : PendingFalls s (grant c z t) := by
  have taken : PendingFalls s (acquire c z (kindFor (Machine.dropEntry c z t) c z) (Machine.dropEntry c z t)) :=
    (h.dropEntry c z).beside z _ _ _
  unfold Machine.grant
  exact (ite (taken.placeReservation c) taken).judgeLimit z

theorem offerGrant (h : PendingFalls s t) (z : Zone) (es : List Entry) : PendingFalls s (offerGrant z es t) := by
  induction es generalizing t with
  | nil => exact h
  | cons e es ih => exact ite (h.grant e.crane z) (ih ((h.dropEntry e.crane z).within (offer_within _ _)))

theorem release (h : PendingFalls s t) (z : Zone) : PendingFalls s (release z t) := by
  have freed : PendingFalls s (t.setZone z { t.zone z with st := .free, vacate := false }) := h.beside z _ _ _
  unfold Machine.release
  dsimp only
  split
  · exact ((freed.dropEntry _ z).cleared z _ _ _).within (checkVaning_within _ _)
  · exact freed.offerGrant z _

theorem letGo (h : PendingFalls s t) (k : Crane) (keep : List Zone) : PendingFalls s (letGo k keep t) :=
  foldl_keeps (P := PendingFalls s) (fun _ z ht => ite (ite ((ht.setKind z _).judgeLimit z) (ht.release z)) ht) _ _ h

theorem suspend (h : PendingFalls s t) (k : Crane) (why : SuspendReason) : PendingFalls s (suspend k why t) := by
  cases active : activeBooking t k with
  | none => rw [suspend_of_none active]; exact h
  | some b =>
    have updated : PendingFalls s (updateBooking b.id (suspendedRecord t b.overtime why) t) :=
      h.within (updateBooking_within b.id (suspendedRecord t b.overtime why) t)
    rw [suspend_of_active active]
    exact (((updated.letGo k []).withdrawReservation k).rejudgeEntries k).within (reportBooking_within _ _)

theorem legEntry (h : PendingFalls s t) (k : Crane) : PendingFalls s (legEntry k t) := by
  refine ((foldl_keeps (P := PendingFalls s) (fun u z hu => ?_) _ _ h).placeReservation k).rejudgeEntries k
  unfold takeLegZone
  split
  · exact ite (hu.beside z _ _ _) hu
  · exact ite (hu.setKind z _) hu
  · exact hu

theorem judgeResume (h : PendingFalls s t) (k : Crane) : PendingFalls s (judgeResume k t) := by
  unfold Machine.judgeResume
  split
  · exact h
  · exact ite (((h.within (updateBooking_within _ _ _)).legEntry k).within (reportBooking_within _ _)) h

theorem unpendZone (h : PendingFalls s t) (k : Crane) (z : Zone) : PendingFalls s (unpendZone k t z) :=
  ite ((h.cleared z _ _ _).clearIdleMark z) h

theorem returnZone (h : PendingFalls s t) (k : Crane) (f : List Occ) (z : Zone) : PendingFalls s (returnZone k f t z) := by
  unfold Machine.returnZone
  dsimp only
  split
  · exact h
  · exact h
  · split
    · exact h
    · split
      · exact h.release z
      · exact ite (h.beside z _ _ _) (ite ((h.beside z _ _ _).judgeLimit z)
          ((h.beside z _ _ _).within (offer_within _ _)))

end PendingFalls

/-! ### The return of swept zones (R125) -/

theorem unpendZone_pending (k : Crane) (s : State) (y z : Zone) : ((unpendZone k s y).zone z).sweepPending
    = if z = y ∧ (s.zone y).sweepPending = some k then none else (s.zone z).sweepPending := by
  have idle (t : State) : ((clearIdleMark y t).zone z).sweepPending = (t.zone z).sweepPending := by
    unfold clearIdleMark
    dsimp only
    split
    · rw [State.setZone_zone]
      split
      · rename_i at_
        rw [at_]
      · rfl
    · rfl
  unfold unpendZone
  by_cases pending : (s.zone y).sweepPending = some k
  · rw [if_pos pending, idle, State.setZone_zone]
    by_cases at_ : z = y
    · rw [if_pos at_, if_pos ⟨at_, pending⟩]
    · rw [if_neg at_, if_neg fun h => at_ h.1]
  · rw [if_neg pending, if_neg fun h => pending h.2]

/-- Once its marks are taken from every zone, crane k is pending nowhere. -/
theorem unpendZones_pending (k : Crane) (s : State) (z : Zone) :
    ((allZones.foldl (unpendZone k) s).zone z).sweepPending ≠ some k := by
  obtain ⟨t, -, at_⟩ := foldl_zones_read (read := fun t => (t.zone z).sweepPending) (f := unpendZone k) (z := z) s
    fun t y h => by rw [unpendZone_pending, if_neg fun hit => h hit.1.symm]
  rw [at_, unpendZone_pending]
  by_cases pending : (t.zone z).sweepPending = some k
  · rw [if_pos ⟨rfl, pending⟩]
    exact nofun
  · rw [if_neg fun h => pending h.2]
    exact pending

theorem unpendZones_st (k : Crane) (s : State) (z : Zone) :
    ((allZones.foldl (unpendZone k) s).zone z).st = (s.zone z).st :=
  foldl_keeps (P := fun t => (t.zone z).st = (s.zone z).st) (fun t y ht => (unpendZone_st k y z t).trans ht) _ _ rfl

/-- A released zone is SWEPT for its sweep-pending crane alone (R51). -/
theorem release_not_swept {z : Zone} {s : State} {k : Crane} (h : (s.zone z).sweepPending ≠ some k) (taken : Nat) :
    ((release z s).zone z).st ≠ .swept k taken := by
  cases pending : (s.zone z).sweepPending with
  | some c =>
    rw [release_of_pending pending]
    exact fun same => h (pending.trans (congrArg some (ZoneState.swept.inj same).1))
  | none =>
    rw [release_of_unpending pending]
    rcases offerGrant_st z (grantOrder (s.zone z).queue) (vacated z s) with kept | ⟨e, -, held⟩
    · rw [kept, vacated_zone]
      exact nofun
    · rw [held, if_pos rfl]
      exact nofun

theorem returnZone_st_ne (k : Crane) (f : List Occ) (s : State) {y z : Zone} (h : z ≠ y) :
    ((returnZone k f s y).zone z).st = (s.zone z).st := by
  have written (r : ZoneRec) : ((s.setZone y r).zone z).st = (s.zone z).st := by rw [State.setZone_zone_ne _ _ _ _ h]
  unfold returnZone
  dsimp only
  split
  · rfl
  · rfl
  · split
    · rfl
    · split
      · exact release_st_ne y s h
      · split
        · exact written _
        · split
          · rw [judgeLimit_st, written]
          · rw [zone_congr (offer_air _ _), written]

/-- A zone that is not SWEPT for the crane stays. -/
theorem returnZone_of_other {k : Crane} {f : List Occ} {s : State} {z : Zone} (h : ∀ taken, (s.zone z).st ≠ .swept k taken) :
    returnZone k f s z = s := by
  unfold returnZone
  dsimp only
  split
  · rfl
  · rfl
  · rename_i j taken at_
    exact if_pos fun same => h taken (by rw [at_, same])

/-- A swept zone outside the footprint is released. -/
theorem returnZone_of_outside {k : Crane} {f : List Occ} {s : State} {z : Zone} {taken : Nat}
    (swept : (s.zone z).st = .swept k taken) (outside : useIn f z = none) : returnZone k f s z = release z s := by
  unfold returnZone
  dsimp only
  rw [swept]
  dsimp only
  rw [if_neg (not_not.2 rfl), outside]

/-- A swept zone under the footprint stays the crane's own, from its old instant. -/
theorem returnZone_of_under {k : Crane} {f : List Occ} {s : State} {z : Zone} {taken : Nat}
    (swept : (s.zone z).st = .swept k taken) (under : (useIn f z).isSome = true) :
    ∃ kind, ((returnZone k f s z).zone z).st = .held k kind taken := by
  obtain ⟨u, use⟩ := Option.isSome_iff_exists.1 under
  unfold returnZone
  dsimp only
  rw [swept]
  dsimp only
  rw [if_neg (not_not.2 rfl), use]
  dsimp only
  split
  · exact ⟨_, congrArg ZoneRec.st (State.setZone_zone_self ..)⟩
  · split
    · exact ⟨_, (judgeLimit_st z z _).trans (congrArg ZoneRec.st (State.setZone_zone_self ..))⟩
    · exact ⟨_, congrArg ZoneRec.st ((zone_congr (offer_air _ _) z).trans (State.setZone_zone_self ..))⟩

/-- The state after the zones swept for crane k have been returned. -/
def returnedState (k : Crane) (s : State) : State :=
  allZones.foldl (returnZone k (footprint (allZones.foldl (unpendZone k) s) k)) (allZones.foldl (unpendZone k) s)

theorem returnSwept_eq (k : Crane) (s : State) : returnSwept k s = setVaneRec k .reset (returnedState k s) := rfl

theorem returnedState_pending (k : Crane) (s : State) (z : Zone) : ((returnedState k s).zone z).sweepPending ≠ some k :=
  (foldl_keeps (P := PendingFalls (allZones.foldl (unpendZone k) s)) (fun _ z ht => ht.returnZone k _ z) _ _ (.refl _)).absent
    (unpendZones_pending k s) z

/-- One zone in the fold that returns them: nothing is pending for k there, and its state is the one it came with. -/
theorem returnedState_at (k : Crane) (s : State) (z : Zone) : ∃ t, (t.zone z).sweepPending ≠ some k
    ∧ (t.zone z).st = (s.zone z).st
    ∧ ((returnedState k s).zone z).st = ((returnZone k (footprint s k) t z).zone z).st := by
  have w : Within { air := true } s (allZones.foldl (unpendZone k) s) := foldl_within (unpendZone_within k) _ _
  obtain ⟨t, pending, same, at_⟩ := foldl_zones_at (read := fun t => (t.zone z).st) (z := z)
    (f := returnZone k (footprint (allZones.foldl (unpendZone k) s) k)) (s := allZones.foldl (unpendZone k) s)
    (I := PendingFalls (allZones.foldl (unpendZone k) s)) (fun _ y ht => ht.returnZone k _ y)
    (fun t y _ h => returnZone_st_ne k _ t h.symm) (.refl _)
  refine ⟨t, pending.absent (unpendZones_pending k s) z, same.trans (unpendZones_st k s z), ?_⟩
  rw [returnedState, at_, footprint_congr (w.site rfl) (w.poses rfl)]

theorem returnedState_not_swept (k : Crane) (s : State) (z : Zone) (taken : Nat) :
    ((returnedState k s).zone z).st ≠ .swept k taken := by
  obtain ⟨t, pending, -, at_⟩ := returnedState_at k s z
  rw [at_]
  by_cases swept : ∃ taken, (t.zone z).st = .swept k taken
  · obtain ⟨since, swept⟩ := swept
    cases use : useIn (footprint s k) z with
    | none =>
      rw [returnZone_of_outside swept use]
      exact release_not_swept pending taken
    | some u =>
      obtain ⟨kind, held⟩ := returnZone_of_under swept (Option.isSome_iff_exists.2 ⟨u, use⟩)
      rw [held]
      exact nofun
  · rw [returnZone_of_other fun since h => swept ⟨since, h⟩]
    exact fun h => swept ⟨taken, h⟩

theorem returnedState_of_under {k : Crane} {s : State} {z : Zone} {taken : Nat} (swept : (s.zone z).st = .swept k taken)
    (under : (useIn (footprint s k) z).isSome = true) : ∃ kind, ((returnedState k s).zone z).st = .held k kind taken := by
  obtain ⟨t, -, same, at_⟩ := returnedState_at k s z
  rw [at_]
  exact returnZone_of_under (same.trans swept) under

theorem returnedState_of_other {k : Crane} {s : State} {z : Zone} (h : ∀ taken, (s.zone z).st ≠ .swept k taken) :
    ((returnedState k s).zone z).st = (s.zone z).st := by
  obtain ⟨t, -, same, at_⟩ := returnedState_at k s z
  rw [at_, returnZone_of_other (by rw [same]; exact h), same]

/-! ### Resumption of the lift (R147) -/

/-- What leg entry may make of a zone's state: a FREE zone is taken, and the kind of the crane's own hold may change. -/
def TakenBy (k : Crane) (a b : ZoneState) : Prop :=
  b = a ∨ a = .free ∧ (∃ kind taken, b = .held k kind taken) ∨ ∃ old new taken, a = .held k old taken ∧ b = .held k new taken

namespace TakenBy

variable {k : Crane} {a b c : ZoneState}

theorem trans (h : TakenBy k a b) (h' : TakenBy k b c) : TakenBy k a c := by
  rcases h' with rfl | ⟨rfl, kind, taken, rfl⟩ | ⟨old, new, taken, rfl, rfl⟩
  · exact h
  · rcases h with rfl | ⟨-, _, _, h⟩ | ⟨_, _, _, -, h⟩
    · exact .inr (.inl ⟨rfl, kind, taken, rfl⟩)
    · cases h
    · cases h
  · rcases h with rfl | ⟨rfl, _, _, h⟩ | ⟨first, _, _, rfl, h⟩
    · exact .inr (.inr ⟨old, new, taken, rfl, rfl⟩)
    · exact .inr (.inl ⟨rfl, new, taken, rfl⟩)
    · cases h
      exact .inr (.inr ⟨first, new, taken, rfl, rfl⟩)

theorem not_swept (h : TakenBy k a b) {j : Crane} (ha : ∀ taken, a ≠ .swept j taken) (taken : Nat) : b ≠ .swept j taken := by
  rcases h with rfl | ⟨-, _, _, rfl⟩ | ⟨_, _, _, -, rfl⟩
  · exact ha taken
  · exact nofun
  · exact nofun

theorem held (h : TakenBy k a b) {j : Crane} {kind : HoldKind} {taken : Nat} (ha : a = .held j kind taken) :
    ∃ kind, b = .held j kind taken := by
  rcases h with rfl | ⟨rfl, _⟩ | ⟨old, new, t, rfl, rfl⟩
  · exact ⟨kind, ha⟩
  · cases ha
  · obtain ⟨rfl, -, rfl⟩ := ZoneState.held.inj ha
    exact ⟨new, rfl⟩

theorem swept (h : TakenBy k a b) {j : Crane} {taken : Nat} (ha : a = .swept j taken) : b = .swept j taken := by
  rcases h with rfl | ⟨rfl, _⟩ | ⟨_, _, _, rfl, _⟩
  · exact ha
  · cases ha
  · cases ha

end TakenBy

theorem takeLegZone_taken (k : Crane) (s : State) (y z : Zone) :
    TakenBy k (s.zone z).st ((takeLegZone k s y).zone z).st := by
  by_cases at_ : z = y
  · subst at_
    unfold takeLegZone
    split
    · rename_i free
      split
      · exact .inr (.inl ⟨free, _, _, acquire_st_self k z _ s⟩)
      · exact .inl rfl
    · rename_i j old since held
      split
      · rename_i own
        obtain ⟨rfl, -⟩ := own
        refine .inr (.inr ⟨old, .booking, since, held, ?_⟩)
        rw [setKind, State.setZone_zone_self, ZoneRec.withKind, held]
      · exact .inl rfl
    · exact .inl rfl
  · refine .inl ?_
    unfold takeLegZone
    split
    · split
      · exact acquire_st_ne k y _ s at_
      · rfl
    · split
      · exact setKind_st_ne y _ s at_
      · rfl
    · rfl

theorem judgeResume_taken (k : Crane) (s : State) (z : Zone) : TakenBy k (s.zone z).st ((judgeResume k s).zone z).st := by
  have entered (t : State) (same : (t.zone z).st = (s.zone z).st) : TakenBy k (s.zone z).st ((legEntry k t).zone z).st := by
    rw [legEntry, rejudgeEntries_st, placeReservation_st]
    exact foldl_keeps (P := fun u => TakenBy k (s.zone z).st (u.zone z).st)
      (fun u y hu => hu.trans (takeLegZone_taken k u y z)) _ _ (.inl same)
  unfold judgeResume
  split
  · exact .inl rfl
  · split
    · rw [zone_congr ((reportBooking_within _ _).air rfl)]
      exact entered _ rfl
    · exact .inl rfl

theorem st_swept_of_sweptFor {r : ZoneRec} {k : Crane} (h : r.sweptFor = some k) : ∃ taken, r.st = .swept k taken := by
  unfold ZoneRec.sweptFor at h
  split at h
  · rename_i j taken at_
    cases h
    exact ⟨taken, at_⟩
  · cases h

theorem st_of_holder {r : ZoneRec} {k : Crane} (h : r.holder = some k) :
    (∃ kind taken, r.st = .held k kind taken) ∨ ∃ taken, r.st = .swept k taken := by
  unfold ZoneRec.holder at h
  split at h
  · cases h
  · rename_i j kind taken at_
    cases h
    exact .inl ⟨kind, taken, at_⟩
  · rename_i j taken at_
    cases h
    exact .inr ⟨taken, at_⟩

/-- What leaves a hold or a swept zone a crane's own leaves it the holder. -/
theorem TakenBy.holder {k j : Crane} {a : ZoneState} {r r' : ZoneRec} (h : TakenBy k a r'.st) (same : a = r.st)
    (hr : r.holder = some j) : r'.holder = some j := by
  unfold ZoneRec.holder
  rcases st_of_holder hr with ⟨kind, taken, held⟩ | ⟨taken, swept⟩
  · obtain ⟨kind', held'⟩ := h.held (same.trans held)
    rw [held']
  · rw [h.swept (same.trans swept)]

/-! ### RESUME CRANE (R127) -/

theorem resumeCrane_of_vaning {tgt : Target} {k : Crane} {s : State} (target : targetCrane tgt = some k)
    (present : cranePresent s k = true) (vaning : (s.vane k).state = .vaning) (level : (s.wind k).level ≠ .stow) :
    resumeCrane tgt s = (.ok, judgeResume k (returnSwept k s)) := by
  rw [resumeCrane, target]
  dsimp only
  rw [present, if_neg (by decide), if_neg (not_not.2 vaning), if_neg level]

/-- Settles O57, by the state and the level. -/
theorem resumeCraneEndsVaning : Obligations.ResumeCraneEndsVaning := by
  intro tag tgt k s target present
  refine ⟨fun vaning level => ?_, fun vaning level => ?_, fun other => ?_⟩
  · have resumed := judgeResume_within k (returnSwept k s)
    have returned := setVaneRec_within k .reset (returnedState k s)
    have w : Within { air := true, vanes := true, bookings := true } s (judgeResume k (returnSwept k s)) :=
      resumed.after (returnSwept_within k s).mono
    have vane : (judgeResume k (returnSwept k s)).vane k = .reset := by
      rw [vane_congr (resumed.vanes rfl), returnSwept_eq, vane_congr (setVaneRec_vanes k _ _), State.setVane_vane_self]
    have st (z : Zone) : TakenBy k ((returnedState k s).zone z).st ((judgeResume k (returnSwept k s)).zone z).st := by
      have taken := judgeResume_taken k (returnSwept k s) z
      rw [returnSwept_eq, zone_congr (returned.air rfl)] at taken
      exact taken
    have pending := ((PendingFalls.refl (returnedState k s)).within returned).judgeResume k
    have frame := w.frame
    rw [← returnSwept_eq] at pending
    have taken := resumeCrane_of_vaning target present vaning level
    clear w resumed returned
    generalize judgeResume k (returnSwept k s) = t at taken vane st pending frame
    refine ⟨_, exec_answered (q := .resumeCrane) taken, rfl, vane, fun z => ⟨?_, pending.absent (returnedState_pending k s) z⟩,
      fun z since swept under => ?_, fun z j ne holder => ?_,
      congrArg (fun u : State => { u with sent := s.sent ++ [responseFrame .resumeCrane tag .ok] }) frame⟩
    · exact fun swept =>
        (st_swept_of_sweptFor swept).elim ((st z).not_swept (returnedState_not_swept k s z))
    · obtain ⟨kind, held⟩ := returnedState_of_under swept under
      exact (st z).held held
    · refine (st z).holder (returnedState_of_other fun since swept => ne ?_) holder
      rw [ZoneRec.holder, swept] at holder
      exact (Option.some.inj holder).symm
  · refine exec_answered (q := .resumeCrane) ?_
    rw [resumeCrane, target]
    dsimp only
    rw [present, if_neg (by decide), if_neg (not_not.2 vaning), if_pos level]
  · refine exec_answered (q := .resumeCrane) ?_
    rw [resumeCrane, target]
    dsimp only
    rw [present, if_neg (by decide), if_pos other]

end Sys2Proof.Machine

/-! PROOFS. CRANE RESTART (R166): the restart values of one crane, and what it leaves of the zones. -/

namespace Sys2Proof.Machine

set_option Elab.async false

/-! ### The Zone Arbiter's action (R66) -/

/-- What the return of a swept zone as a FROZEN hold makes of a zone's state (R66). -/
def ZoneState.unsweptBy (k : Crane) : ZoneState → ZoneState
  | .swept j t => if j = k then .held k .frozen t else .swept j t
  | .held j h t => .held j h t
  | .free => .free

theorem unsweepZone_st_ne (k : Crane) (s : State) {y z : Zone} (h : z ≠ y) :
    ((unsweepZone k s y).zone z).st = (s.zone z).st := by
  unfold unsweepZone
  split
  · rfl
  · rfl
  · split
    · rw [State.setZone_zone_ne _ _ _ _ h]
    · rfl

theorem unsweepZone_st_self (k : Crane) (s : State) (z : Zone) :
    ((unsweepZone k s z).zone z).st = (s.zone z).st.unsweptBy k := by
  unfold unsweepZone
  cases at_ : (s.zone z).st with
  | free => exact at_
  | held j h t => exact at_
  | swept j t =>
    dsimp only [ZoneState.unsweptBy]
    split
    · rw [State.setZone_zone_self]
    · exact at_

/-- The zones of crane k that a restart in OPERATING has worked through, its marks taken. -/
def unsweptState (k : Crane) (s : State) : State :=
  allZones.foldl (unpendZone k) (allZones.foldl (unsweepZone k) (allZones.foldl (freezeZone k) s))

theorem unsweptState_st (k : Crane) (s : State) (z : Zone) :
    ((unsweptState k s).zone z).st = ((s.zone z).st.frozenBy k).unsweptBy k := by
  obtain ⟨t, same, at_⟩ := foldl_zones_read (read := fun t => (t.zone z).st) (f := unsweepZone k) (z := z)
    (allZones.foldl (freezeZone k) s) fun t y h => unsweepZone_st_ne k t h.symm
  rw [unsweptState, unpendZones_st, at_, unsweepZone_st_self, same, freezeZones_zone]

theorem restartArbiter_arb (k : Crane) (s : State) : (restartArbiter k s).arb k = .reset s.now := by
  have now : (if s.mode = .operating then withdrawReservation k (withdrawWait k (unsweptState k s)) else s).now = s.now := by
    have w : Within { air := true } s (unsweptState k s) :=
      (foldl_within (unpendZone_within k) _ _).after ((foldl_within (unsweepZone_within k) _ _).after
        (foldl_within (freezeZone_within k) _ _))
    exact (ite_within ((withdrawReservation_within k _).after ((withdrawWait_within k _).after w)) (Within.refl _ s)).now
  exact (State.setArb_arb_self ..).trans (congrArg ArbRec.reset now)

theorem restartArbiter_of_operating {k : Crane} {s : State} (h : s.mode = .operating) :
    restartArbiter k s = (withdrawReservation k (withdrawWait k (unsweptState k s))).setArb k
      (.reset (withdrawReservation k (withdrawWait k (unsweptState k s))).now) := by
  unfold restartArbiter
  rw [if_pos h]
  rfl

theorem restartArbiter_st {k : Crane} {s : State} (h : s.mode = .operating) (z : Zone) :
    ((restartArbiter k s).zone z).st = ((s.zone z).st.frozenBy k).unsweptBy k := by
  rw [restartArbiter_of_operating h, State.setArb_zone, withdrawReservation_st, withdrawWait_st, unsweptState_st]

theorem restartArbiter_pending {k : Crane} {s : State} (h : s.mode = .operating) (z : Zone) :
    ((restartArbiter k s).zone z).sweepPending ≠ some k := by
  rw [restartArbiter_of_operating h]
  exact ((((PendingFalls.refl _).withdrawWait k).withdrawReservation k).setArb k _).absent (unpendZones_pending k _) z

theorem unsweptBy_frozenBy_of_held {k : Crane} (kind : HoldKind) (taken : Nat) :
    ((ZoneState.held k kind taken).frozenBy k).unsweptBy k
      = .held k (if kind = .exitOnly then .exitOnly else .frozen) taken := by
  cases kind with
  | motion => exact congrArg (ZoneState.unsweptBy k) (if_pos ⟨rfl, .inl rfl⟩)
  | booking => exact congrArg (ZoneState.unsweptBy k) (if_pos ⟨rfl, .inr rfl⟩)
  | frozen => exact congrArg (ZoneState.unsweptBy k) (if_neg nofun)
  | exitOnly => exact congrArg (ZoneState.unsweptBy k) (if_neg nofun)

theorem unsweptBy_frozenBy_of_swept (k : Crane) (taken : Nat) :
    ((ZoneState.swept k taken).frozenBy k).unsweptBy k = .held k .frozen taken := if_pos rfl

theorem unsweptBy_of_holder {r : ZoneRec} {j k : Crane} (h : r.holder = some j) (ne : j ≠ k) : r.st.unsweptBy k = r.st := by
  rcases st_of_holder h with ⟨kind, taken, at_⟩ | ⟨taken, at_⟩
  · rw [at_]
    rfl
  · rw [at_]
    exact if_neg ne

/-- After a restart the crane has no hold of kind BOOKING. -/
theorem unsweptBy_frozenBy_ne_booking (k : Crane) (a : ZoneState) (taken : Nat) :
    (a.frozenBy k).unsweptBy k ≠ .held k .booking taken := by
  cases frozen : a.frozenBy k with
  | free => exact nofun
  | swept j t =>
    unfold ZoneState.unsweptBy
    dsimp only
    split
    · exact nofun
    · exact nofun
  | held j kind t =>
    intro same
    obtain ⟨rfl, rfl, -⟩ := ZoneState.held.inj same
    rcases frozenBy_held frozen with booking | booking
    · cases booking
    · cases booking

/-! ### The blocks before the suspension -/

/-- The coordinator when Lane Interface, Zone Arbiter and Motion Governor of crane k have taken their restart values. -/
def ungovernedState (k : Crane) (s : State) : State := (restartArbiter k (restartLane k s)).setGov k .reset

/-- The same with Vane Control. -/
def unvanedState (k : Crane) (s : State) : State := setVaneRec k .reset (ungovernedState k s)

/-- The same with Wind Monitor: every block of crane k has its restart values (R166 steps 1 to 5). -/
def initialisedState (k : Crane) (s : State) : State :=
  (initialise k (s.mode == .operating && cranePresent s k) (unvanedState k s)).2

theorem ungovernedState_after (k : Crane) (s : State) : Within { gov := true } (restartArbiter k (restartLane k s)) (ungovernedState k s) :=
  setGov_within _ _ _

theorem unvanedState_after (k : Crane) (s : State) : Within { vanes := true } (ungovernedState k s) (unvanedState k s) :=
  setVaneRec_within _ _ _

theorem initialisedState_after (k : Crane) (s : State) : Within { winds := true } (unvanedState k s) (initialisedState k s) :=
  initialise_within _ _ _

theorem unvanedState_within (k : Crane) (s : State) :
    Within { lanes := true, poses := true, air := true, gov := true, vanes := true } s (unvanedState k s) :=
  (unvanedState_after k s).after ((ungovernedState_after k s).after ((restartArbiter_within _ _).after
    (restartLane_within _ _).mono))

theorem initialisedState_within (k : Crane) (s : State) :
    Within { lanes := true, poses := true, air := true, gov := true, vanes := true, winds := true } s (initialisedState k s) :=
  (initialisedState_after k s).after (unvanedState_within k s).mono

theorem restart_eq (k : Crane) (s : State) : restart k s = clearCounters k (suspend k .lane (initialisedState k s)) := by
  have w := unvanedState_within k s
  rw [initialisedState, ← w.mode, ← cranePresent_congr (w.site rfl)]
  rfl

theorem initialisedState_air (k : Crane) (s : State) : (initialisedState k s).air = (restartArbiter k (restartLane k s)).air :=
  ((initialisedState_after k s).air rfl).trans (((unvanedState_after k s).air rfl).trans ((ungovernedState_after k s).air rfl))

theorem initialisedState_lanes (k : Crane) (s : State) : (initialisedState k s).lanes = (restartLane k s).lanes :=
  ((initialisedState_after k s).lanes rfl).trans (((unvanedState_after k s).lanes rfl).trans
    (((ungovernedState_after k s).lanes rfl).trans ((restartArbiter_within _ _).lanes rfl)))

theorem initialisedState_poses (k : Crane) (s : State) : (initialisedState k s).poses = (s.setPose k none).poses := by
  have written : (restartLane k s).poses = (s.setPose k none).poses := by
    have before := ((setControl_within k .halted (setLaneState k .syncing s)).poses rfl).trans
      ((setLaneState_within k .syncing s).poses rfl)
    exact congrArg (fun v : Vector (Option Pose) 8 => v.set k none) before
  exact ((initialisedState_after k s).poses rfl).trans (((unvanedState_after k s).poses rfl).trans
    (((ungovernedState_after k s).poses rfl).trans (((restartArbiter_within _ _).poses rfl).trans written)))

theorem initialisedState_gov (k : Crane) (s : State) : (initialisedState k s).gov = (s.setGov k .reset).gov := by
  have before := ((restartArbiter_within k (restartLane k s)).gov rfl).trans ((restartLane_within k s).gov rfl)
  exact ((initialisedState_after k s).gov rfl).trans (((unvanedState_after k s).gov rfl).trans
    (congrArg (fun g : Vector GovRec 8 => g.set k .reset) before))

theorem initialisedState_arb (k : Crane) (s : State) : (initialisedState k s).arb k = .reset s.now := by
  rw [arb_congr (initialisedState_air k s), restartArbiter_arb, (restartLane_within k s).now]

theorem initialisedState_vane (k : Crane) (s : State) : (initialisedState k s).vane k = .reset := by
  rw [vane_congr ((initialisedState_after k s).vanes rfl), unvanedState, vane_congr (setVaneRec_vanes k _ _),
    State.setVane_vane_self]

theorem initialisedState_wind (k j : Crane) (s : State) : (initialisedState k s).wind j
    = if j = k then .initial (s.mode == .operating && cranePresent s k) else s.wind j := by
  rw [initialisedState, initialise_wind, wind_congr ((unvanedState_within k s).winds rfl)]

theorem initialisedState_st {k : Crane} {s : State} (operating : s.mode = .operating) (z : Zone) :
    ((initialisedState k s).zone z).st = ((s.zone z).st.frozenBy k).unsweptBy k := by
  have lane := restartLane_within k s
  rw [zone_congr (initialisedState_air k s), restartArbiter_st (lane.mode.trans operating), zone_congr (lane.air rfl)]

theorem initialisedState_pending {k : Crane} {s : State} (operating : s.mode = .operating) (z : Zone) :
    ((initialisedState k s).zone z).sweepPending ≠ some k := by
  rw [zone_congr (initialisedState_air k s)]
  exact restartArbiter_pending ((restartLane_within k s).mode.trans operating) z

/-! ### The suspension that follows -/

/-- Every way of touching a zone leaves the vane record of a crane whose state is NONE. -/
theorem vane_airClosed {k : Crane} {v : VaneRec} (none : v.state = .none) : AirClosed fun t => t.vane k = v where
  frame ht w _ _ vanes := (vane_congr (w.vanes vanes) k).trans ht
  outcome _ _ _ ht := ht
  arb _ _ _ ht := ht
  acquire j z h t ht _ _ := (vane_congr ((acquire_within j z h t).vanes rfl) k).trans ht
  kind _ z h t ht _ _ := (vane_congr ((setKind_within z h t).vanes rfl) k).trans ht
  mark z c t ht := (vane_congr ((markVacate_within z c t).vanes rfl) k).trans ht
  refresh c z t ht := (vane_congr ((refreshEntry_within c z t).vanes rfl) k).trans ht
  remove c z t ht := (vane_congr ((removeEntry_within c z t).vanes rfl) k).trans ht
  join c z t ht _ := (vane_congr ((joinQueue_within c z t).vanes rfl) k).trans ht
  release _ _ ht := (release_vane_same (by rw [ht, none])).trans ht
  sweep j z t ht := (vane_congr ((sweepZone_within j t z).vanes rfl) k).trans ht
  unpend j z t ht := (vane_congr ((unpendZone_within j t z).vanes rfl) k).trans ht
  unsweep _ _ _ _ _ _ ht _ _ _ := ht

theorem suspend_vane {k : Crane} {v : VaneRec} (none : v.state = .none) {s : State} (h : s.vane k = v) (j : Crane)
    (why : SuspendReason) : (suspend j why s).vane k = v := by
  cases active : activeBooking s j with
  | none => rw [suspend_of_none active, h]
  | some b =>
    rw [suspend_of_active active, vane_congr ((reportBooking_within _ _).vanes rfl)]
    exact (vane_airClosed none).giveUp j (s := updateBooking b.id (suspendedRecord s b.overtime why) s) h

/-- A suspension leaves a crane's arbiter record when neither a motion wait nor a reservation stands in it. -/
theorem suspend_arb {k : Crane} {s : State} (wait : (s.arb k).motionWait = none) (free : (s.arb k).reservation = none)
    (why : SuspendReason) : (suspend k why s).arb k = s.arb k := by
  have falls := WaitsFall.suspend k why s
  have still : ((suspend k why s).arb k).motionWait = (s.arb k).motionWait := by
    rcases falls.wait k with same | gone
    · exact same
    · rw [gone, wait]
  have unreserved : ((suspend k why s).arb k).reservation = (s.arb k).reservation := by
    cases active : activeBooking s k with
    | none => rw [suspend_of_none active]
    | some b => rw [suspend_of_active active, arb_congr ((reportBooking_within _ _).air rfl), giveUp_reservation, free]
  rw [falls.frame k, still, unreserved]

/-! ### What a restart leaves of the Capture Buffer -/

namespace CaptureKept

variable {s t : State}

theorem freezeZone (h : CaptureKept s t) (k : Crane) (z : Zone) : CaptureKept s (freezeZone k t z) := ite (h.setZone z _) h

theorem unsweepZone (h : CaptureKept s t) (k : Crane) (z : Zone) : CaptureKept s (unsweepZone k t z) := by
  unfold Machine.unsweepZone
  split
  · exact h
  · exact h
  · exact ite (h.setZone z _) h

theorem unpendZone (h : CaptureKept s t) (k : Crane) (z : Zone) : CaptureKept s (unpendZone k t z) :=
  ite ((h.setZone z _).clearIdleMark z) h

theorem restartArbiter (h : CaptureKept s t) (k : Crane) : CaptureKept s (restartArbiter k t) := by
  have frozen := foldl_keeps (P := CaptureKept s) (fun _ z ht => ht.freezeZone k z) allZones _ h
  have unswept := foldl_keeps (P := CaptureKept s) (fun _ z ht => ht.unsweepZone k z) allZones _ frozen
  have unpended := foldl_keeps (P := CaptureKept s) (fun _ z ht => ht.unpendZone k z) allZones _ unswept
  exact (ite ((unpended.withdrawWait k).withdrawReservation k) h).setArb k _

theorem restart (k : Crane) (s : State) : CaptureKept s (restart k s) :=
  restart_keeps k s ((((refl s).setLaneState k .syncing).setControl k .halted).trans (of_recorder rfl))
    (fun _ h => h.restartArbiter k) (fun _ h => h.trans (of_recorder rfl)) (fun _ h => h.setVaneRec k _)
    (fun _ b h => h.initialise k b) (fun _ h => h.suspend k .lane) (fun _ h => h.trans ⟨rfl, rfl⟩)

end CaptureKept

/-! ### CRANE RESTART -/

/-- Settles O51, block by block. -/
theorem craneRestartTakesRestartValues : Obligations.CraneRestartTakesRestartValues := by
  intro tag tgt k s target
  have taken : craneRestart tgt s = (.ok, restart k s) := by rw [craneRestart, target]
  have kept := CaptureKept.restart k s
  have frame := (restart_within k s).frame
  have before := initialisedState_within k s
  have lanes := (initialisedState_lanes k s).trans (restartLane_lanes k s)
  have poses := initialisedState_poses k s
  have gov := initialisedState_gov k s
  have arb := initialisedState_arb k s
  have vane := initialisedState_vane k s
  have wind := fun j => initialisedState_wind k j s
  have st := fun h => initialisedState_st (k := k) (s := s) h
  have pending := fun h => initialisedState_pending (k := k) (s := s) h
  rw [restart_eq] at taken kept frame
  generalize initialisedState k s = t at *
  have suspended := suspend_within k .lane t
  have still : (suspend k .lane t).vane k = .reset := suspend_vane rfl vane k .lane
  have arb' : (suspend k .lane t).arb k = .reset s.now := (suspend_arb (by rw [arb]; rfl) (by rw [arb]; rfl) .lane).trans arb
  have unbooked (h : s.mode = .operating) : NoBookingHold k t := fun z taken held =>
    unsweptBy_frozenBy_ne_booking k _ taken ((st h z).symm.trans held)
  have zones (h : s.mode = .operating) (z : Zone) :
      ((suspend k .lane t).zone z).st = ((s.zone z).st.frozenBy k).unsweptBy k :=
    (suspend_st_of_noBookingHold (unbooked h) .lane z).trans (st h z)
  have unpended (h : s.mode = .operating) := ((PendingFalls.refl t).suspend k .lane).absent (pending h)
  have record (b : Booking) (h : activeBooking s k = some b) := suspend_record (s := t) (k := k) (b := b)
    ((activeBooking_congr (before.bookings rfl) k).trans h) .lane
  have counters := (suspended.recorder.counters rfl).trans (before.recorder.counters rfl)
  generalize suspend k .lane t = u at *
  have w : Within { lanes := true, poses := true, air := true, gov := true, winds := true, vanes := true, bookings := true }
      s u := suspended.after before.mono
  have lanes' := (suspended.lanes rfl).trans lanes
  have poses' := (suspended.poses rfl).trans poses
  have gov' := (suspended.gov rfl).trans gov
  have wind' (j : Crane) := (wind_congr (suspended.winds rfl) j).trans (wind j)
  have cleared : (clearCounters k u).recorder.counters = s.recorder.counters.set k (Vector.replicate 9 .zero) :=
    congrArg (fun v : Vector (Vector Counter 9) 8 => v.set k (Vector.replicate 9 .zero)) counters
  refine ⟨_, exec_answered (q := .craneRestart) taken, rfl, lane_of_lanes lanes', ?_, arb', ?_, still, ?_, fun i => ?_,
    w.recorder.reports rfl, fun j ne => ⟨lane_of_lanes_ne lanes' ne, ?_, ?_, ?_, ?_⟩,
    fun operating => ⟨fun z kind since held => ?_, fun z since swept => ?_, unpended operating, fun z j ne holder => ?_⟩,
    fun b active => ?_, w.recorder.settings rfl, kept.capture, kept.missed, w.recorder.transferTimer rfl,
    congrArg (fun x : State => { x with sent := s.sent ++ [responseFrame .craneRestart tag .ok] }) frame⟩
  · exact (pose_congr poses' k).trans (vector_set_self _ k _)
  · exact (govRec_congr gov' k).trans (vector_set_self _ k _)
  · exact (wind' k).trans (if_pos rfl)
  · refine (congrArg (fun v : Vector (Vector Counter 9) 8 => v[k][i]) cleared).trans ?_
    rw [vector_set_self, vector_replicate]
    rfl
  · exact (pose_congr poses' j).trans (vector_set_ne _ ne _)
  · exact (govRec_congr gov' j).trans (vector_set_ne _ ne _)
  · exact (wind' j).trans (if_neg ne)
  · exact (congrArg (fun v : Vector (Vector Counter 9) 8 => v[j]) cleared).trans (vector_set_ne _ ne _)
  · refine (zones operating z).trans ?_
    rw [held, unsweptBy_frozenBy_of_held]
  · refine (zones operating z).trans ?_
    rw [swept, unsweptBy_frozenBy_of_swept]
  · refine (zones operating z).trans ?_
    rw [frozenBy_of_holder holder ne, unsweptBy_of_holder holder ne]
  · obtain ⟨b', mem, id, state, reason, -⟩ := record b active
    exact ⟨b', mem, id, state, reason⟩

end Sys2Proof.Machine

/-! PROOFS. The site clock (R167, R168): a site second, and the expiries SET SITE TIME takes. -/

namespace Sys2Proof.Machine

set_option Elab.async false

/-! ### How many expiries are pending -/

/-- A pending override expiry counts one. -/
def overrideWeight (s : State) (z : Zone) : Nat := if (s.perm z).expiry.isSome then 1 else 0

/-- A booking's window events still to come: open and close, the close event alone, or none (R135). -/
def windowWeight (b : Booking) : Nat := if b.state = .logged then 2 else if closePending b then 1 else 0

/-- The expiries that can still be taken: each takes one of them away. -/
def pendingCount (s : State) : Nat :=
  (allZones.map (overrideWeight s)).sum + s.access.grants.length + (s.bookings.map windowWeight).sum

theorem pendingCount_le (s : State) : pendingCount s ≤ duesBound s := by
  have overrides : (allZones.map (overrideWeight s)).sum ≤ 64 := by
    refine (List.sum_le_card_nsmul _ 1 fun n hn => ?_).trans (by rw [List.length_map]; rfl)
    obtain ⟨z, -, rfl⟩ := List.mem_map.1 hn
    unfold overrideWeight
    split
    · exact le_rfl
    · exact Nat.zero_le _
  have windows : (s.bookings.map windowWeight).sum ≤ 2 * s.bookings.length := by
    refine (List.sum_le_card_nsmul _ 2 fun n hn => ?_).trans (by rw [List.length_map, smul_eq_mul, Nat.mul_comm])
    obtain ⟨b, -, rfl⟩ := List.mem_map.1 hn
    unfold windowWeight
    split
    · exact le_rfl
    · split
      · exact Nat.le_succ 1
      · exact Nat.zero_le _
  unfold pendingCount duesBound
  omega

/-- A change of one record that takes away from its window events takes away from all. -/
theorem windows_fall {s : State} (hs : TableKept s) {b : Booking} (hb : b ∈ s.bookings) {f : Booking → Booking}
    (falls : windowWeight (f b) < windowWeight b) :
    ((updateBooking b.id f s).bookings.map windowWeight).sum < (s.bookings.map windowWeight).sum := by
  show ((s.bookings.map fun c => if c.id == b.id then f c else c).map windowWeight).sum < _
  rw [List.map_map]
  refine List.sum_lt_sum _ _ (fun c hc => ?_) ⟨b, hb, ?_⟩
  · show windowWeight (if c.id == b.id then f c else c) ≤ _
    split
    · rename_i same
      rw [TableSound.eq_of_id hs hc hb (beq_iff_eq.1 same)]
      exact falls.le
    · exact le_rfl
  · show windowWeight (if b.id == b.id then f b else b) < _
    rwa [if_pos (beq_self_eq_true _)]

/-! ### What is due -/

theorem mem_siteDues {s : State} {i : Nat} {d : SiteDue} (h : (i, d) ∈ siteDues s) :
    (∃ z, d = .override z ∧ (s.perm z).expiry = some i) ∨ (∃ g ∈ s.access.grants, d = .grant g.crane g.zone)
      ∨ ∃ b ∈ s.bookings, windowDue b = some (i, d) := by
  unfold siteDues at h
  rcases List.mem_append.1 h with h | h
  · rcases List.mem_append.1 h with h | h
    · obtain ⟨z, -, hz⟩ := List.mem_filterMap.1 h
      obtain ⟨t, expiry, e⟩ := Option.map_eq_some_iff.1 hz
      cases e
      exact .inl ⟨z, rfl, expiry⟩
    · obtain ⟨g, hg, hd⟩ := List.mem_filterMap.1 h
      obtain ⟨t, -, e⟩ := Option.map_eq_some_iff.1 hd
      cases e
      exact .inr (.inl ⟨g, hg, rfl⟩)
  · obtain ⟨b, hb, due⟩ := List.mem_filterMap.1 h
    exact .inr (.inr ⟨b, hb, due⟩)

theorem windowDue_cases {b : Booking} {i : Nat} {d : SiteDue} (h : windowDue b = some (i, d)) :
    d = .windowOpen b.id ∧ b.state = .logged ∨ d = .windowClose b.id ∧ b.state ≠ .logged ∧ closePending b = true := by
  unfold windowDue at h
  split at h
  · cases h
    exact .inl ⟨rfl, by assumption⟩
  · split at h
    · cases h
      exact .inr ⟨rfl, by assumption, by assumption⟩
    · cases h

/-! ### Each expiry taken is one fewer pending -/

theorem overrides_fall {s t : State} {z : Zone} {i : Nat} (due : (s.perm z).expiry = some i)
    (perms : ∀ y, t.perm y = if y = z then { s.perm z with current := basePerms s z, override := false, expiry := none } else s.perm y) :
    (allZones.map (overrideWeight t)).sum < (allZones.map (overrideWeight s)).sum := by
  have at_ : overrideWeight t z < overrideWeight s z := by
    unfold overrideWeight
    rw [perms, if_pos rfl, due]
    exact Nat.one_pos
  refine List.sum_lt_sum _ _ (fun y _ => ?_) ⟨z, mem_allZones z, at_⟩
  by_cases same : y = z
  · rw [same]
    exact at_.le
  · unfold overrideWeight
    rw [perms, if_neg same]

theorem expireOverride_access (z : Zone) (s : State) : (expireOverride z s).access = (revertPerm z s).access :=
  ((reexamine_within _ _).access rfl).trans ((offer_within _ _).access rfl)

theorem expireOverride_bookings (z : Zone) (s : State) : (expireOverride z s).bookings = s.bookings :=
  ((reexamine_within _ _).bookings rfl).trans ((offer_within _ _).bookings rfl)

theorem expireGrant_access (g : Grant) (s : State) : (expireGrant g s).access
    = (s.setGrants (withoutGrant s.access.grants g.crane g.zone)).access :=
  ((reexamine_within _ _).access rfl).trans ((offer_within _ _).access rfl)

theorem expireGrant_bookings (g : Grant) (s : State) : (expireGrant g s).bookings = s.bookings :=
  ((reexamine_within _ _).bookings rfl).trans ((offer_within _ _).bookings rfl)

theorem overrideWeight_congr {s t : State} (perms : t.access.perms = s.access.perms) : overrideWeight t = overrideWeight s := by
  funext y
  unfold overrideWeight State.perm
  rw [perms]

theorem expireOverride_count {s : State} {z : Zone} {i : Nat} (due : (s.perm z).expiry = some i) :
    pendingCount (expireOverride z s) < pendingCount s := by
  have access := expireOverride_access z s
  have fall := overrides_fall (t := expireOverride z s) due fun y => by
    unfold State.perm
    rw [access]
    exact State.setPerm_perm s z _ y
  have grants : (expireOverride z s).access.grants = s.access.grants := by
    rw [access]
    rfl
  unfold pendingCount
  rw [expireOverride_bookings, grants]
  exact Nat.add_lt_add_right (Nat.add_lt_add_right fall _) _

theorem expireGrant_count {s : State} {g : Grant} (mem : g ∈ s.access.grants) : pendingCount (expireGrant g s) < pendingCount s := by
  have access := expireGrant_access g s
  have shorter : (expireGrant g s).access.grants.length < s.access.grants.length := by
    rw [access]
    exact List.length_filter_lt_length_iff_exists.2 ⟨g, mem, by simp⟩
  have perms : overrideWeight (expireGrant g s) = overrideWeight s := overrideWeight_congr ((congrArg Access.perms access :).trans rfl)
  unfold pendingCount
  rw [expireGrant_bookings, perms]
  exact Nat.add_lt_add_right (Nat.add_lt_add_left shorter _) _

/-- An operation that touches neither permissions nor grants and takes away from the window events. -/
theorem count_of_windows {w : Touch} {s t : State} (h : Within w s t) (access : w.access = false := by rfl)
    (falls : (t.bookings.map windowWeight).sum < (s.bookings.map windowWeight).sum) : pendingCount t < pendingCount s := by
  unfold pendingCount
  rw [overrideWeight_congr (congrArg Access.perms (h.access access)), h.access access]
  exact Nat.add_lt_add_left falls _

theorem openWindow_count {s : State} (hs : TableKept s) {b : Booking} (hb : b ∈ s.bookings) (logged : b.state = .logged) :
    pendingCount (openWindow b.id s) < pendingCount s := by
  refine count_of_windows (openWindow_within b.id s) rfl ?_
  rw [openWindow, (reportBooking_within _ _).bookings rfl]
  refine windows_fall hs hb ?_
  unfold windowWeight
  rw [if_pos logged]
  exact Nat.one_lt_two

theorem closeWindow_count {s : State} (hs : TableKept s) {b : Booking} (hb : b ∈ s.bookings) (logged : b.state ≠ .logged)
    (pending : closePending b = true) : pendingCount (closeWindow b s) < pendingCount s := by
  refine count_of_windows (closeWindow_within b s) rfl ?_
  have before : windowWeight b = 1 := by
    unfold windowWeight
    rw [if_neg logged, if_pos pending]
  have falls {f : Booking → Booking} (gone : windowWeight (f b) = 0) :
      ((updateBooking b.id f s).bookings.map windowWeight).sum < (s.bookings.map windowWeight).sum :=
    windows_fall hs hb (by rw [gone, before]; exact Nat.one_pos)
  have lapses (waiting : b.state = .opened ∨ b.state = .suspended) :
      ((closeWindow b s).bookings.map windowWeight).sum < (s.bookings.map windowWeight).sum := by
    rw [closeWindow_of_waiting waiting, (reportBooking_within _ _).bookings rfl]
    exact falls rfl
  unfold closePending at pending
  split at pending
  · exact lapses (.inl (by assumption))
  · exact lapses (.inr (by assumption))
  · rename_i active
    rw [closeWindow_of_active active (by simpa using pending), (reportOvertime_within _ _).bookings rfl]
    refine falls ?_
    unfold windowWeight closePending
    rw [if_neg logged]
    dsimp only
    rw [active]
    rfl
  all_goals cases pending

theorem findGrant_of_mem {s : State} {g : Grant} (mem : g ∈ s.access.grants) :
    ∃ g' ∈ s.access.grants, findGrant s g.crane g.zone = some g' := by
  obtain ⟨g', found⟩ := Option.isSome_iff_exists.1 (findGrant_isSome.2 ⟨g, mem, rfl, rfl⟩)
  exact ⟨g', List.mem_of_find?_eq_some found, found⟩

theorem findBooking_of_mem {s : State} (hs : TableKept s) {b : Booking} (mem : b ∈ s.bookings) : findBooking s b.id = some b := by
  cases found : findBooking s b.id with
  | none => exact absurd (List.find?_eq_none.1 found b mem) (by simp)
  | some c => rw [TableSound.eq_of_id hs (mem_of_findBooking found) mem (id_of_findBooking found)]

theorem takeSiteDue_count {s : State} (hs : TableKept s) {i : Nat} {d : SiteDue} (due : (i, d) ∈ siteDues s) :
    pendingCount (takeSiteDue s d) < pendingCount s := by
  rcases mem_siteDues due with ⟨z, rfl, expiry⟩ | ⟨g, mem, rfl⟩ | ⟨b, mem, window⟩
  · exact expireOverride_count expiry
  · obtain ⟨g', mem', found⟩ := findGrant_of_mem mem
    unfold takeSiteDue
    dsimp only
    rw [found]
    exact expireGrant_count mem'
  · rcases windowDue_cases window with ⟨rfl, logged⟩ | ⟨rfl, logged, pending⟩
    · exact openWindow_count hs mem logged
    · unfold takeSiteDue
      dsimp only
      rw [findBooking_of_mem hs mem]
      exact closeWindow_count hs mem logged pending

/-! ### All expiries are taken (R168) -/

/-- While an expiry at or before t is pending, one of the earliest is (R168). -/
theorem earliestDues_eq_nil {t : Nat} {s : State} : earliestDues t s = [] ↔ ∀ d ∈ siteDues s, t < d.1 := by
  unfold earliestDues
  dsimp only
  rw [List.map_eq_nil_iff, List.filter_eq_nil_iff]
  constructor
  · intro none d hd
    by_contra early
    have mem : d ∈ ((siteDues s).filter fun d => d.1 ≤ t).toFinset :=
      List.mem_toFinset.2 (List.mem_filter.2 ⟨hd, decide_eq_true (Nat.not_lt.1 early)⟩)
    obtain ⟨e, he, least⟩ := Finset.exists_min_image _ Prod.fst ⟨d, mem⟩
    refine none e (List.mem_toFinset.1 he) (List.all_eq_true.2 fun c hc => ?_)
    exact decide_eq_true (least c (List.mem_toFinset.2 hc))
  · intro later d hd
    obtain ⟨mem, early⟩ := List.mem_filter.1 hd
    exact absurd (of_decide_eq_true early) (Nat.not_le.2 (later d mem))

theorem takeDues_exhausts (t : Nat) {fuel : Nat} {s : State} (hs : TableKept s) (enough : pendingCount s ≤ fuel) :
    ∀ d ∈ siteDues (takeDues t fuel s), t < d.1 := by
  induction fuel generalizing s with
  | zero =>
    intro d hd
    exact absurd ((takeSiteDue_count hs hd).trans_le enough) (Nat.not_lt_zero _)
  | succ fuel ih =>
    rw [takeDues]
    split
    · rename_i none
      exact earliestDues_eq_nil.1 (chooseDue_eq_none.1 none)
    · rename_i d chosen
      obtain ⟨i, -, due⟩ := mem_siteDues_of_earliest (mem_of_chooseDue chosen)
      have counted : TableKept { s with freeCount := s.freeCount + 1 } := hs
      refine ih (TableKept.blockClosed.takeSiteDue counted due) ?_
      exact Nat.le_of_lt_succ ((takeSiteDue_count counted due).trans_le enough)

theorem takeDues_of_later {t : Nat} {s : State} (later : ∀ d ∈ siteDues s, t < d.1) (fuel : Nat) : takeDues t fuel s = s := by
  cases fuel with
  | zero => rfl
  | succ fuel =>
    rw [takeDues, earliestDues_eq_nil.2 later]
    rfl

theorem Within.recounted {w : Touch} {s t : State} (h : Within w s t) (n : Nat) :
    Within w { s with freeCount := n } { t with freeCount := n } := { h with freeCount := rfl }

theorem takeDues_within (t fuel : Nat) (s : State) :
    Within Touch.due { s with freeCount := (takeDues t fuel s).freeCount } (takeDues t fuel s) := by
  induction fuel generalizing s with
  | zero => exact Within.refl _ _
  | succ fuel ih =>
    rw [takeDues]
    split
    · exact Within.refl _ _
    · rename_i d _
      exact (ih _).after ((takeSiteDue_within { s with freeCount := s.freeCount + 1 } d).recounted _)

/-! ### SET SITE TIME -/

theorem setSiteTime_of_site {tgt : Target} {s : State} (site : targetIsSite tgt = true) (x : Nat) :
    setSiteTime tgt x s = (.ok, { (if s.clock.siteTime < x then takeDues x (duesBound s) s else s) with
      clock := ⟨x, (if s.clock.siteTime < x then takeDues x (duesBound s) s else s).now⟩ }) := by
  rw [setSiteTime, site]
  rfl

/-- Settles O52: the second by its definition, the setting by the expiries it takes. -/
theorem siteTimeRisesAndIsSet : Obligations.SiteTimeRisesAndIsSet := by
  refine ⟨fun s => rfl, fun tag tgt x s site => ⟨fun backward => ?_, fun forward table => ?_⟩⟩
  · have taken := setSiteTime_of_site (s := s) site x
    rw [if_neg (Nat.not_lt.2 backward)] at taken
    exact exec_answered (q := .setSiteTime) taken
  · have taken := setSiteTime_of_site (s := s) site x
    rw [if_pos forward] at taken
    have none := takeDues_exhausts x (s := s) table (pendingCount_le s)
    have idle := fun later => takeDues_of_later (t := x) (s := s) later (duesBound s)
    have w := takeDues_within x (duesBound s) s
    generalize takeDues x (duesBound s) s = t at taken none idle w
    have frame := congrArg (fun u : State => { u with clock := ⟨x, t.now⟩, sent := s.sent ++ [responseFrame .setSiteTime tag .ok] })
      w.frame
    refine ⟨_, exec_answered (q := .setSiteTime) taken, rfl, congrArg (Clock.mk x) w.now, none,
      fun later => ?_, ?_⟩
    · rw [idle later]
    · exact frame

end Sys2Proof.Machine

/-! PROOFS. Frames on the S-port (R161, R171, R173): trains of request frames, and the frames that complete none. -/

namespace Sys2Proof.Machine

set_option Elab.async false

/-! ### Bytes on the S-port (R171) -/

/-- The line of the S-port with some bytes in progress. -/
def State.setLineS (s : State) (bs : List RxByte) : State := { s with line := { s.line with s := bs } }

theorem setLineS_same {bs : List RxByte} {s : State} (h : s.line.s = bs) : s.setLineS bs = s := by
  subst h
  rfl

/-- Bytes short of a whole frame are collected. -/
theorem foldl_arriveS_short (bs : List RxByte) (s : State) (h : (s.line.s ++ bs).length < 32) :
    bs.foldl arriveS s = s.setLineS (s.line.s ++ bs) := by
  induction bs generalizing s with
  | nil => rw [List.foldl_nil, List.append_nil, setLineS_same rfl]
  | cons b bs ih =>
    rw [List.append_cons] at h ⊢
    have short : (s.line.s ++ [b]).length < 32 := by
      rw [List.length_append] at h
      exact Nat.lt_of_le_of_lt (Nat.le_add_right _ _) h
    have first : arriveS s b = s.setLineS (s.line.s ++ [b]) := if_pos short
    rw [List.foldl_cons, first, ih _ h]
    rfl

/-- 32 bytes on an idle S-port are judged as one frame. -/
theorem foldl_arriveS_frame {f : List RxByte} {s : State} (idle : s.line.s = []) (whole : f.length = 32) :
    f.foldl arriveS s = judgeOnS f s := by
  obtain ⟨bs, b, rfl⟩ := (List.eq_nil_or_concat f).resolve_left fun h => by rw [h] at whole; cases whole
  have before : bs.length = 31 := by simpa using whole
  have collected : bs.foldl arriveS s = s.setLineS bs := by
    rw [foldl_arriveS_short bs s (by rw [idle, List.nil_append]; omega), idle, List.nil_append]
  have last : arriveS (s.setLineS bs) b = judgeOnS (bs ++ [b]) s := by
    have full : ¬(bs ++ [b]).length < 32 := by simp [before]
    exact (if_neg full).trans (congrArg (judgeOnS (bs ++ [b])) (setLineS_same idle))
  rw [List.concat_eq_append, List.foldl_append, collected, List.foldl_cons, List.foldl_nil, last]

theorem exec_managementFrame {f : List RxByte} {s : State} (idle : s.line.s = []) (whole : f.length = 32) :
    exec (.managementFrame f) s = .next (judgeOnS f s) :=
  congrArg Host.Outcome.next (foldl_arriveS_frame idle whole)

theorem requestAccepted_iff {f : List RxByte} :
    requestAccepted f = true ↔ checkOk f = true ∧ unsignedAt (plainBytes f) 0 1 = 3 := by
  simp [requestAccepted, requestType]

theorem judgeOnS_of_accepted {f : List RxByte} (h : requestAccepted f = true) (s : State) :
    judgeOnS f s = acceptRequestFrame (plainBytes f) s := if_pos h

/-! ### Frames and the assembly (R173) -/

theorem joinAssembly_first (old : Option Assembly) (kind tag : Byte) (tgt : Target) (part : List Byte) :
    joinAssembly old 0 kind tag tgt part = some ⟨kind, tag, tgt, [part]⟩ := if_pos rfl

theorem joinAssembly_next (a : Assembly) {index : Nat} (later : index ≠ 0) (kind tag : Byte) (tgt : Target) (part : List Byte) :
    joinAssembly (some a) index kind tag tgt part
      = if index = a.parts.length ∧ kind = a.kind ∧ tag = a.tag ∧ tgt = a.tgt then some { a with parts := a.parts ++ [part] }
        else none := if_neg later

theorem joinAssembly_none {index : Nat} (later : index ≠ 0) (kind tag : Byte) (tgt : Target) (part : List Byte) :
    joinAssembly none index kind tag tgt part = none := if_neg later

/-- The next part of a train joins the parts before it; the first needs none. -/
theorem joinAssembly_train {old : Option Assembly} {kind tag : Byte} {tgt : Target} {parts : List (List Byte)}
    (so_far : parts = [] ∨ old = some ⟨kind, tag, tgt, parts⟩) (part : List Byte) :
    joinAssembly old parts.length kind tag tgt part = some ⟨kind, tag, tgt, parts ++ [part]⟩ := by
  cases parts with
  | nil => exact joinAssembly_first old kind tag tgt part
  | cons p ps =>
    rw [so_far.resolve_left (List.cons_ne_nil p ps)]
    exact (joinAssembly_next _ (Nat.succ_ne_zero ps.length) ..).trans (if_pos ⟨rfl, rfl, rfl, rfl⟩)

theorem acceptRequestFrame_joined {b : List Byte} {s : State} {a : Assembly}
    (h : joinAssembly s.mgmt.assembly (unsignedAt b 3 1 % 32) (byte (unsignedAt b 1 1)) (byte (unsignedAt b 2 1)) (frameTarget b)
      (fieldAt b 7 23) = some a) :
    acceptRequestFrame b s
      = if (unsignedAt b 3 1).testBit 7 then completeRequest a (setAssembly none s) else setAssembly (some a) s := by
  unfold acceptRequestFrame
  dsimp only
  rw [h]

theorem acceptRequestFrame_discarded {b : List Byte} {s : State}
    (h : joinAssembly s.mgmt.assembly (unsignedAt b 3 1 % 32) (byte (unsignedAt b 1 1)) (byte (unsignedAt b 2 1)) (frameTarget b)
      (fieldAt b 7 23) = none) :
    acceptRequestFrame b s = setAssembly none s := by
  unfold acceptRequestFrame
  dsimp only
  rw [h]

/-- A mark byte tells index and last mark apart (Figure 11-6). -/
theorem mark_parts {index : Nat} (small : index < 32) (last : Bool) :
    (index + if last then 128 else 0) % 32 = index ∧ (index + if last then 128 else 0).testBit 7 = last := by
  cases last with
  | false => exact ⟨Nat.mod_eq_of_lt small, Nat.testBit_lt_two_pow (small.trans (by decide))⟩
  | true =>
    refine ⟨?_, ?_⟩
    · rw [if_pos rfl]
      omega
    · rw [if_pos rfl, Nat.add_comm]
      exact (Nat.testBit_two_pow_add_eq index 7).trans (by rw [Nat.testBit_lt_two_pow (small.trans (by decide))]; rfl)

/-- One frame of a train: the parts so far with its own are the assembly, or the request when it is the last. -/
theorem judgeOnS_train {kind tag : Byte} {tgt : Target} {parts : List (List Byte)} {last : Bool} {f : List RxByte} {s : State}
    (frame : RequestFrame kind tag tgt parts.length last f) (small : parts.length < 32)
    (so_far : parts = [] ∨ s.mgmt.assembly = some ⟨kind, tag, tgt, parts⟩) :
    judgeOnS f s = if last = true
      then completeRequest ⟨kind, tag, tgt, parts ++ [fieldAt (plainBytes f) 7 23]⟩ (setAssembly none s)
      else setAssembly (some ⟨kind, tag, tgt, parts ++ [fieldAt (plainBytes f) 7 23]⟩) s := by
  obtain ⟨-, accepted, rfl, rfl, rfl, mark⟩ := frame
  obtain ⟨index, lastMark⟩ := mark_parts small last
  rw [← mark] at index lastMark
  rw [judgeOnS_of_accepted accepted, acceptRequestFrame_joined (by rw [index]; exact joinAssembly_train so_far _), lastMark]

/-- The frames of a train from an index on, the last mark on the last alone. -/
def TrainFrom (kind tag : Byte) (tgt : Target) (start : Nat) (fs : List (List RxByte)) : Prop :=
  ∀ i : Fin fs.length, RequestFrame kind tag tgt (start + i.val) (decide (i.val + 1 = fs.length)) fs[i]

theorem trainFrom_cons {kind tag : Byte} {tgt : Target} {start : Nat} {f : List RxByte} {fs : List (List RxByte)}
    (h : TrainFrom kind tag tgt start (f :: fs)) :
    RequestFrame kind tag tgt start (decide (fs = [])) f ∧ TrainFrom kind tag tgt (start + 1) fs := by
  refine ⟨?_, fun i => ?_⟩
  · have first := h ⟨0, Nat.succ_pos _⟩
    have last : decide (0 + 1 = (f :: fs).length) = decide (fs = []) := decide_eq_decide.2 (by simp)
    dsimp only at first
    rw [last] at first
    exact first
  · have next := h i.succ
    have last : decide (i.val + 1 + 1 = (f :: fs).length) = decide (i.val + 1 = fs.length) := decide_eq_decide.2 (by simp)
    rw [Fin.val_succ, last, ← Nat.add_assoc, Nat.add_right_comm] at next
    exact next

/-- A train that arrives whole after the parts so far is taken as one request (R173). -/
theorem foldl_arriveS_train {kind tag : Byte} {tgt : Target} (fs : List (List RxByte)) (some_ : fs ≠ [])
    {parts : List (List Byte)} {s : State} (idle : s.line.s = [])
    (so_far : parts = [] ∨ s.mgmt.assembly = some ⟨kind, tag, tgt, parts⟩) (small : parts.length + fs.length ≤ 32)
    (frames : TrainFrom kind tag tgt parts.length fs) :
    fs.flatten.foldl arriveS s
      = completeRequest ⟨kind, tag, tgt, parts ++ fs.map fun f => fieldAt (plainBytes f) 7 23⟩ (setAssembly none s) := by
  induction fs generalizing parts s with
  | nil => exact absurd rfl some_
  | cons f fs ih =>
    obtain ⟨first, rest⟩ := trainFrom_cons frames
    have taken := judgeOnS_train (s := s) first (by rw [List.length_cons] at small; omega) so_far
    rw [List.flatten_cons, List.foldl_append, foldl_arriveS_frame idle first.1, taken]
    by_cases last : fs = []
    · subst last
      rfl
    · rw [if_neg fun h => last (of_decide_eq_true h)]
      refine (ih last (parts := parts ++ [fieldAt (plainBytes f) 7 23])
        (s := setAssembly (some ⟨kind, tag, tgt, parts ++ [fieldAt (plainBytes f) 7 23]⟩) s) idle (.inr rfl) ?_ ?_).trans ?_
      · simp only [List.length_append, List.length_cons, List.length_nil] at small ⊢
        omega
      · rw [List.length_append]
        exact rest
      · rw [List.append_assoc]
        rfl

theorem exec_requestTrain {kind tag : Byte} {tgt : Target} {fs : List (List RxByte)} (train : RequestTrain kind tag tgt fs)
    {s : State} (idle : s.line.s = []) : exec (.managementFrame fs.flatten) s
      = .next (completeRequest ⟨kind, tag, tgt, fs.map fun f => fieldAt (plainBytes f) 7 23⟩ (setAssembly none s)) := by
  obtain ⟨some_, small, frames⟩ := train
  refine congrArg Host.Outcome.next (foldl_arriveS_train fs (List.length_pos_iff.1 some_) (parts := []) idle (.inl rfl) ?_ ?_)
  · rwa [List.length_nil, Nat.zero_add]
  · intro i
    rw [List.length_nil, Nat.zero_add]
    exact frames i

/-! ### Requests read from their payload -/

/-- What a payload is read as is a request, with the tag of its frames. -/
theorem judgeRequest_of_parse {kind : Nat} {tag : Byte} {tgt : Target} {c rest : Cursor} {i : Instr}
    (h : parseRequest kind tag tgt c = some (i, rest)) (s : State) : ∃ j, judgeRequest i s = some j ∧ j.tag = tag := by
  unfold parseRequest at h
  split at h
  case h_11 =>
    dsimp only at h
    split at h
    · cases h
      exact ⟨_, rfl, rfl⟩
    · cases h
      exact ⟨_, rfl, rfl⟩
  case h_25 => cases h
  all_goals
    cases h
    exact ⟨_, rfl, rfl⟩

theorem completeRequest_of_parse {a : Assembly} {s : State} {i : Instr} {rest : Cursor}
    (h : parseRequest a.kind.toNat a.tag a.tgt ⟨a.parts.flatten, s.freeCount⟩ = some (i, rest)) :
    completeRequest a s = runRequest i { s with freeCount := rest.free } := by
  unfold completeRequest
  rw [h]

theorem completeRequest_of_unknown {a : Assembly} {s : State}
    (h : parseRequest a.kind.toNat a.tag a.tgt ⟨a.parts.flatten, s.freeCount⟩ = none) :
    completeRequest a s = send .s (responseBytes a.kind a.tag (.no .range)) s := by
  unfold completeRequest
  rw [h]

theorem runRequest_of_judged {i : Instr} {s : State} {j : Judged} (h : judgeRequest i s = some j) :
    exec i s = .next (runRequest i s) := by
  rw [exec_request i s j h, runRequest, h]

/-- Settles O5: a whole train by induction over its frames, other frames by the assembly they find. -/
theorem requestTrainRunsItsRequest : Obligations.RequestTrainRunsItsRequest := by
  refine ⟨fun kind tag tgt fs s train idle => ?_, fun f s whole idle check type => ?_, fun f s whole idle bad => ?_,
    fun f s short idle => ?_, fun s => rfl⟩
  · have taken := exec_requestTrain train idle
    have payload : trainPayload fs = (fs.map fun f => fieldAt (plainBytes f) 7 23).flatten := List.flatMap_def
    refine ⟨fun c rest parsed => ?_, fun unknown => ?_⟩
    · rw [payload] at parsed
      obtain ⟨j, judged, rfl⟩ := judgeRequest_of_parse parsed { setAssembly none s with freeCount := rest.free }
      have runs : exec (.managementFrame fs.flatten) s = exec c { setAssembly none s with freeCount := rest.free } := by
        rw [taken, completeRequest_of_parse parsed, runRequest_of_judged judged]
      exact ⟨runs, j, judged, runs.trans (exec_judged judged)⟩
    · rw [payload] at unknown
      rw [taken, completeRequest_of_unknown unknown]
      rfl
  · have accepted := exec_managementFrame idle whole
    rw [judgeOnS_of_accepted (requestAccepted_iff.2 ⟨check, type⟩)] at accepted
    refine ⟨fun more zero => ?_, fun a more later old continued => ?_, fun later none => ?_⟩
    · rw [accepted, acceptRequestFrame_joined (by rw [zero]; exact joinAssembly_first ..), more]
      rfl
    · rw [accepted, acceptRequestFrame_joined (by rw [old, joinAssembly_next a later, if_pos continued]), more]
      rfl
    · rw [accepted, acceptRequestFrame_discarded ?_]
      · rfl
      · cases old : s.mgmt.assembly with
        | none => exact joinAssembly_none later ..
        | some a => rw [joinAssembly_next a later, if_neg (none a old)]
  · rw [exec_managementFrame idle whole]
    exact congrArg Host.Outcome.next (if_neg (mt requestAccepted_iff.1 bad))
  · refine congrArg Host.Outcome.next ((foldl_arriveS_short f s (by rwa [idle, List.nil_append])).trans ?_)
    rw [idle, List.nil_append]
    rfl

end Sys2Proof.Machine
